-- ==== Sys2Proof/Word.lean ====
section
/-! DEFINITION. The words of AQM-RFC and the exact arithmetic on them that the spec's notation fixes (00_scope.md R6). -/

namespace Sys2Proof

/-- A 32-bit register, bus datum or command word (10_state.md R26). -/
abbrev Word := BitVec 32

/-- A byte of a register, as a byte-oriented host sees it (20_memory.md R74). -/
abbrev Byte := BitVec 8

/-- A byte offset of the register space, the width of `bus_addr` (10_state.md R22). -/
abbrev Offset := BitVec 8

/-- An interval held by the receive decoder, in ticks (10_state.md R55). -/
abbrev Dur := BitVec 24

/-- `|a - b|`, computed exactly (00_scope.md R6). -/
def absDiff (a b : Nat) : Nat := (a - b) + (b - a)

end Sys2Proof
end

