-- ==== Sys2Proof/Config.lean ====
section
/-! DEFINITION. The parameters of the block (00_scope.md R5) and the free values of the model. The OPEN parameters and the free
values are opaque: no proof can see what they are. -/

namespace Sys2Proof

/-- The timing of one protocol, in units of the pulse length `T` (40_pulse_codec.md R116): the sync, zero and one symbols. -/
structure Timing where
  syncHigh : Nat
  syncLow  : Nat
  zeroHigh : Nat
  zeroLow  : Nat
  oneHigh  : Nat
  oneLow   : Nat
deriving DecidableEq, Repr, Inhabited

namespace Config

/-- One less than the clock frequency in MHz: OPEN, any natural number (00_scope.md R5, 92_eei_decisions.md D3; log 1). -/
opaque clkMHzLessOne : Nat

/-- `TICK_DIV`: clocks per microsecond tick, `CLK_HZ / 1 000 000` (00_scope.md R5; log 1). -/
def tickDiv : Nat := clkMHzLessOne + 1

/-- `CLK_HZ`: an integer multiple of 1 000 000, at least 1 000 000 (00_scope.md R5; log 1). -/
def clkHz : Nat := tickDiv * 1000000

/-- `BLOCK_BASE`: OPEN, the platform's base address; the block never sees it (20_memory.md R71; log 14). -/
opaque blockBase : Nat

/-- The host address of the register at a byte offset (20_memory.md R71). Nothing inside the block reads it. -/
def hostAddress (off : Offset) : Nat := blockBase + off.toNat

/-- FREE VALUE: the level of `rf_rx_in` in a clock that the schedule of inputs leaves open (log 3). -/
opaque idleRxLevel : Nat → Bool

/-- FREE VALUE: the timing of a protocol number outside the table, which no run reaches (log 11). -/
opaque freeTiming : Nat → Timing

/-- `W_VAL`: the width of a sample value and of a threshold, signed two's complement (00_scope.md R5). -/
abbrev wVal : Nat := 32

/-- `DANGER_LIMIT` (00_scope.md R5). -/
def dangerLimit : Int := 100

/-- `CAPTURE_BITS` (00_scope.md R5). -/
def captureBits : BitVec 6 := 24

/-- `CAPTURE_REPEAT` (00_scope.md R5). -/
def captureRepeat : BitVec 8 := 10

/-- `N_PROTO` (00_scope.md R5). -/
def nProto : Nat := 6

/-- `PROTO_TABLE`: the rows of protocols 1 to 6, columns SH SL ZH ZL OH OL (40_pulse_codec.md R116; log 13). -/
def protoTable : List Timing :=
  [⟨1, 31, 1, 3, 3, 1⟩, ⟨1, 10, 1, 2, 2, 1⟩, ⟨30, 71, 4, 11, 9, 6⟩,
   ⟨1, 6, 1, 3, 3, 1⟩, ⟨6, 14, 1, 2, 2, 1⟩, ⟨1, 10, 1, 5, 1, 1⟩]

/-- `RX_GAP_MIN`, in ticks (00_scope.md R5). -/
def rxGapMin : Nat := 5000

/-- `RX_GAP_MATCH`, in ticks (00_scope.md R5). -/
def rxGapMatch : Nat := 200

/-- `RX_TOL_PCT`, in percent of the pulse unit (00_scope.md R5). -/
def rxTolPct : Nat := 80

/-- `RX_MIN_BITS` (00_scope.md R5). -/
def rxMinBits : Nat := 3

/-- `RX_MAX_BITS` (00_scope.md R5). -/
def rxMaxBits : Nat := 32

/-- `RX_BUF_MAX` (00_scope.md R5). -/
def rxBufMax : Nat := 2 * rxMaxBits + 1

/-- `DUR_MAX`: where a measured interval saturates (00_scope.md R5). -/
def durMax : Nat := 2 ^ 24 - 1

/-- `ID_VALUE` (00_scope.md R5, 10_state.md R27). -/
def idValue : Word := 0x41514D43

end Config

/-- A sample value or a threshold, `W_VAL` bits of two's complement (00_scope.md R5, 10_state.md R47, R48). -/
abbrev Sample := BitVec Config.wVal

end Sys2Proof
end

