-- ==== Sys2Proof/Syntax.lean ====
section
/-! DEFINITION. The commands of AQM-RFC: one constructor per row of spec/opcode_table.json (30_encoding.md R94). -/

namespace Sys2Proof

/-- The mode operand M of CTL_MODE and CTL_CYCLE: 1 is ON, 0 is any other mode (30_encoding.md R92). -/
inductive Mode where
  | on
  | notOn
deriving DecidableEq, Repr, Inhabited

/-- A command of the block. Operands other than M are registers (30_encoding.md R96). -/
inductive Instr where
  | nop
  | txSend
  | txAck
  | profClear
  | rxAck
  | rxCapture
  | ctlMode (m : Mode)
  | ctlCycle (m : Mode)
  | faultClear
deriving DecidableEq, Repr, Inhabited

end Sys2Proof
end

