-- ==== Sys2Proof/Machine/State.lean ====
section
/-! DEFINITION. The state of AQM-RFC as plain data: everything 10_state.md R20 lists, the synchroniser of R23, the output levels,
and two fields of the model's own (`inputs`, `clock`). The reasons a step of the model can stop. The state after reset. -/

namespace Sys2Proof.Machine

/-- The fault codes 0 to 9 (60_exceptions.md R260). Codes 10 to 15 are never recorded, so they have no constructor. -/
inductive FaultCode where
  | none
  | illegalCmd
  | busError
  | sequence
  | txBusy
  | txDisabled
  | profileInvalid
  | noRx
  | channelConflict
  | fieldRange
deriving DecidableEq, Repr, Inhabited

/-- FAULT, FAULT_INFO and FAULT_ADDR (10_state.md R32, R33, R34). -/
structure FaultRec where
  code     : FaultCode
  overflow : Bool
  info     : Word
  addr     : Word
deriving DecidableEq, Repr, Inhabited

/-- An RF profile (40_pulse_codec.md R110): the contents of the PROF_* registers and of `tx_snap`. -/
structure Profile where
  code  : Word
  proto : BitVec 8
  pulse : BitVec 16
  bits  : BitVec 6
  reps  : BitVec 8
deriving DecidableEq, Repr, Inhabited

/-- The reception latch: STATUS.RX_VALID, STATUS.RX_OVERRUN and RX_CODE to RX_TS (10_state.md R30, R42 to R46). -/
structure RxLatch where
  valid   : Bool
  overrun : Bool
  code    : Word
  proto   : BitVec 8
  pulse   : BitVec 16
  bits    : BitVec 6
  ts      : Word
deriving DecidableEq, Repr, Inhabited

/-- `ctl_state` (10_state.md R53). -/
inductive LoopState where
  | outer
  | active
deriving DecidableEq, Repr, Inhabited

/-- `prev_mode` (10_state.md R53; 90_conflicts.md C4: EMPTY is a third value). -/
inductive PrevMode where
  | empty
  | notOn
  | on
deriving DecidableEq, Repr, Inhabited

/-- `last_class` and the result of a classification (10_state.md R53, 43_control_fsm.md R200); NONE is held only from reset. -/
inductive SampleClass where
  | none
  | ok
  | bad
  | danger
deriving DecidableEq, Repr, Inhabited

/-- The source's ControlState (10_state.md R53). `prevThresh` is a tagged value: `none` is the unset sentinel. -/
structure ControlState where
  loop           : LoopState
  prevMode       : PrevMode
  actuatorActive : Bool
  prevThresh     : Option Sample
  lastClass      : SampleClass
deriving DecidableEq, Repr, Inhabited

/-- The 18 used bits of INTENT (10_state.md R50). -/
abbrev IntentMask := BitVec 18

/-- A segment of a transmission: a level of `rf_tx_out` and how many ticks it lasts (40_pulse_codec.md R120). -/
structure Segment where
  level : Bool
  ticks : Nat
deriving DecidableEq, Repr, Inhabited

/-- The transmit engine (10_state.md R54; log 9) with TX_FRAMES (R52). -/
structure TxEngine where
  busy   : Bool
  snap   : Profile
  seq    : List Segment
  pos    : Nat
  left   : Nat
  frames : BitVec 8
deriving DecidableEq, Repr, Inhabited

/-- The receive decoder (10_state.md R55). -/
structure RxDecoder where
  primed   : Bool
  level    : Bool
  seenEdge : Bool
  dur      : Dur
  haveRef  : Bool
  gprev    : Dur
  buf      : List Dur
  ovf      : Bool
deriving DecidableEq, Repr, Inhabited

/-- The two stages of the synchroniser of `rf_rx_in` (10_state.md R23); the decoder sees `stage2`. -/
structure Synchroniser where
  stage1 : Bool
  stage2 : Bool
deriving DecidableEq, Repr, Inhabited

/-- The bus access of one clock (10_state.md R22): `bus_sel` = 0, a read, or a write. -/
inductive Access where
  | idle
  | read (off : Offset)
  | write (off : Offset) (data : Word)
deriving DecidableEq, Repr, Inhabited

/-- The inputs of one clock (10_state.md R22): `rst_n`, the bus access and `rf_rx_in`. -/
structure ClockIn where
  rstN   : Bool
  access : Access
  rxIn   : Bool
deriving DecidableEq, Repr, Inhabited

/-- The state of the block (10_state.md R20). -/
structure State where
  /-- CTRL (10_state.md R28) -/
  ctrl : Word
  /-- the fault record (10_state.md R32 to R34) -/
  fault : FaultRec
  /-- TIMER (10_state.md R25) -/
  timer : Word
  /-- the PROF_* registers (10_state.md R36 to R40) -/
  prof : Profile
  /-- PROF_VALID (10_state.md R41) -/
  profValid : BitVec 5
  /-- the reception latch (10_state.md R42 to R46) -/
  rx : RxLatch
  /-- CTL_VALUE (10_state.md R47) -/
  ctlValue : Sample
  /-- CTL_THRESH (10_state.md R48) -/
  ctlThresh : Sample
  /-- the control state machine (10_state.md R53) -/
  ctl : ControlState
  /-- INTENT (10_state.md R50) -/
  intent : IntentMask
  /-- CTL_SEQ (10_state.md R51) -/
  ctlSeq : Word
  /-- STATUS.TX_DONE (10_state.md R30) -/
  txDone : Bool
  /-- the transmit engine (10_state.md R54) -/
  tx : TxEngine
  /-- the receive decoder (10_state.md R55) -/
  dec : RxDecoder
  /-- the input synchroniser (10_state.md R23) -/
  sync : Synchroniser
  /-- the tick divider (10_state.md R24) -/
  tickCnt : Nat
  /-- the output `rf_tx_out` (10_state.md R57) -/
  rfTxOut : Bool
  /-- the output `irq` (10_state.md R58) -/
  irq : Bool
  /-- the output `bus_rdata` of the last clock, when it carried a read (10_state.md R22; log 10) -/
  readData : Option Word
  /-- the MODEL's own: the inputs of the coming clocks (log 2) -/
  inputs : List ClockIn
  /-- the MODEL's own: the counter of the free line levels (log 3) -/
  clock : Nat
deriving DecidableEq, Repr, Inhabited

/-- Reasons for the machine to stop: none. A fault of the spec is a record in the state after which the block goes on
(60_exceptions.md R261), every access completes in its clock (44_system.md R244), and the engines never fault
(41_rx_decoder.md R154). Nothing raises it; having no constructor is safe. -/
inductive Fault where
deriving DecidableEq, Repr

/-- Reasons for an instruction to have no meaning. -/
inductive Refusal where
  /-- An arm of `exec` that has no meaning yet raises it. No arm does. It is safe: the model stops. -/
  | notModelled (mnemonic : String)
deriving DecidableEq, Repr

/-- Replace ctrl: CTRL (10_state.md R28). -/
def State.setCtrl (s : State) (x : Word) : State := { s with ctrl := x }
/-- Replace fault: the fault record (10_state.md R32 to R34). -/
def State.setFault (s : State) (x : FaultRec) : State := { s with fault := x }
/-- Replace timer: TIMER (10_state.md R25). -/
def State.setTimer (s : State) (x : Word) : State := { s with timer := x }
/-- Replace prof: the PROF_* registers (10_state.md R36 to R40). -/
def State.setProf (s : State) (x : Profile) : State := { s with prof := x }
/-- Replace profValid: PROF_VALID (10_state.md R41). -/
def State.setProfValid (s : State) (x : BitVec 5) : State := { s with profValid := x }
/-- Replace rx: the reception latch (10_state.md R42 to R46). -/
def State.setRx (s : State) (x : RxLatch) : State := { s with rx := x }
/-- Replace ctlValue: CTL_VALUE (10_state.md R47). -/
def State.setCtlValue (s : State) (x : Sample) : State := { s with ctlValue := x }
/-- Replace ctlThresh: CTL_THRESH (10_state.md R48). -/
def State.setCtlThresh (s : State) (x : Sample) : State := { s with ctlThresh := x }
/-- Replace ctl: the control state machine (10_state.md R53). -/
def State.setCtl (s : State) (x : ControlState) : State := { s with ctl := x }
/-- Replace intent: INTENT (10_state.md R50). -/
def State.setIntent (s : State) (x : IntentMask) : State := { s with intent := x }
/-- Replace ctlSeq: CTL_SEQ (10_state.md R51). -/
def State.setCtlSeq (s : State) (x : Word) : State := { s with ctlSeq := x }
/-- Replace txDone: STATUS.TX_DONE (10_state.md R30). -/
def State.setTxDone (s : State) (x : Bool) : State := { s with txDone := x }
/-- Replace tx: the transmit engine (10_state.md R54). -/
def State.setTx (s : State) (x : TxEngine) : State := { s with tx := x }
/-- Replace dec: the receive decoder (10_state.md R55). -/
def State.setDec (s : State) (x : RxDecoder) : State := { s with dec := x }
/-- Replace sync: the input synchroniser (10_state.md R23). -/
def State.setSync (s : State) (x : Synchroniser) : State := { s with sync := x }
/-- Replace tickCnt: the tick divider (10_state.md R24). -/
def State.setTickCnt (s : State) (x : Nat) : State := { s with tickCnt := x }
/-- Replace rfTxOut: the output `rf_tx_out` (10_state.md R57). -/
def State.setRfTxOut (s : State) (x : Bool) : State := { s with rfTxOut := x }
/-- Replace irq: the output `irq` (10_state.md R58). -/
def State.setIrq (s : State) (x : Bool) : State := { s with irq := x }
/-- Replace readData: the output `bus_rdata` of the last clock, when it carried a read (10_state.md R22; log 10). -/
def State.setReadData (s : State) (x : Option Word) : State := { s with readData := x }
/-- Replace inputs: the MODEL's own: the inputs of the coming clocks (log 2). -/
def State.setInputs (s : State) (x : List ClockIn) : State := { s with inputs := x }
/-- Replace clock: the MODEL's own: the counter of the free line levels (log 3). -/
def State.setClock (s : State) (x : Nat) : State := { s with clock := x }

/-- The profile registers with every field 0, as after reset and PROF_CLEAR (70_reset_and_hazards.md R291, 42_tx_actuator.md R190). -/
def Profile.cleared : Profile := { code := 0, proto := 0, pulse := 0, bits := 0, reps := 0 }

/-- No fault recorded (60_exceptions.md R260, code 0). -/
def FaultRec.clear : FaultRec := { code := .none, overflow := false, info := 0, addr := 0 }

/-- The reception latch after reset (70_reset_and_hazards.md R291). -/
def RxLatch.reset : RxLatch :=
  { valid := false, overrun := false, code := 0, proto := 0, pulse := 0, bits := 0, ts := 0 }

/-- The control state machine after reset (10_state.md R53). -/
def ControlState.reset : ControlState :=
  { loop := .outer, prevMode := .empty, actuatorActive := false, prevThresh := none, lastClass := .none }

/-- The transmit engine after reset (70_reset_and_hazards.md R291). `tx_snap` and `tx_seq` are unspecified there: DESIGN CHOICE,
unsafe, the zero profile and the empty list (log 6). -/
def TxEngine.reset : TxEngine :=
  { busy := false, snap := Profile.cleared, seq := [], pos := 0, left := 0, frames := 0 }

/-- The decoder's initial state (41_rx_decoder.md R140). -/
def RxDecoder.initial : RxDecoder :=
  { primed := false, level := false, seenEdge := false, dur := 0, haveRef := false, gprev := 0, buf := [], ovf := false }

/-- The synchroniser after reset is unspecified (70_reset_and_hazards.md R291): DESIGN CHOICE, unsafe, both stages 0 (log 5). -/
def Synchroniser.reset : Synchroniser := { stage1 := false, stage2 := false }

/-- The state after reset (70_reset_and_hazards.md R291). `inputs` and `clock` are the model's own: nothing is scheduled, and the
counter starts at 0 (DESIGN CHOICE, log 2 and log 3). -/
def State.reset : State :=
  { ctrl := 0
    fault := FaultRec.clear
    timer := 0
    prof := Profile.cleared
    profValid := 0
    rx := RxLatch.reset
    ctlValue := 0
    ctlThresh := 0
    ctl := ControlState.reset
    intent := 0
    ctlSeq := 0
    txDone := false
    tx := TxEngine.reset
    dec := RxDecoder.initial
    sync := Synchroniser.reset
    tickCnt := 0
    rfTxOut := false
    irq := false
    readData := none
    inputs := []
    clock := 0 }

end Sys2Proof.Machine
end

