-- ==== Sys2Proof/Machine/Codec.lean ====
section
/-! DEFINITION. The pulse codec (40_pulse_codec.md): from a profile to the segments of its transmission. -/

namespace Sys2Proof.Machine

/-- The timing of protocol `p` (40_pulse_codec.md R116). A number outside the table does not exist there; it has a free timing,
and no run reaches it (log 11). -/
def timing (p : Nat) : Timing :=
  match p with
  | 0 => Config.freeTiming 0
  | k + 1 => (Config.protoTable[k]?).getD (Config.freeTiming (k + 1))

/-- A symbol `(H, L)` at pulse length `t`: high for `H * t` ticks, then low for `L * t` (40_pulse_codec.md R117). -/
def symbol (high low t : Nat) : List Segment := [⟨true, high * t⟩, ⟨false, low * t⟩]

/-- The symbol of a data bit (40_pulse_codec.md R118). -/
def bitSymbol (tm : Timing) (t : Nat) (b : Bool) : List Segment :=
  if b then symbol tm.oneHigh tm.oneLow t else symbol tm.zeroHigh tm.zeroLow t

/-- The data bits of a frame: the `n` low bits of the code, most significant first (40_pulse_codec.md R118). -/
def dataSegments (tm : Timing) (t : Nat) (c : Word) : Nat → List Segment
  | 0 => []
  | k + 1 => bitSymbol tm t (c.getLsbD k) ++ dataSegments tm t c k

/-- A frame: the data bits, then the sync symbol (40_pulse_codec.md R119). -/
def frameSegments (tm : Timing) (t : Nat) (c : Word) (n : Nat) : List Segment :=
  dataSegments tm t c n ++ symbol tm.syncHigh tm.syncLow t

/-- `tx_seq`: `repeat_count` frames back to back (40_pulse_codec.md R120). -/
def Profile.segments (p : Profile) : List Segment :=
  (List.replicate p.reps.toNat
    (frameSegments (timing p.proto.toNat) p.pulse.toNat p.code p.bits.toNat)).flatten

/-- The pulse units of the data bits of a frame (40_pulse_codec.md R121). -/
def dataUnits (tm : Timing) (c : Word) : Nat → Nat
  | 0 => 0
  | k + 1 => (if c.getLsbD k then tm.oneHigh + tm.oneLow else tm.zeroHigh + tm.zeroLow) + dataUnits tm c k

/-- `F`, the length of one frame in ticks (40_pulse_codec.md R121). -/
def Profile.frameTicks (p : Profile) : Nat :=
  p.pulse.toNat * ((timing p.proto.toNat).syncHigh + (timing p.proto.toNat).syncLow
    + dataUnits (timing p.proto.toNat) p.code p.bits.toNat)

/-- The total length of a segment list, in ticks. -/
def totalTicks (l : List Segment) : Nat := (l.map Segment.ticks).sum

/-- The level of `rf_tx_out` at each tick of a segment list (40_pulse_codec.md R117, R120). -/
def waveform (l : List Segment) : List Bool := l.flatMap fun g => List.replicate g.ticks g.level

end Sys2Proof.Machine
end

