-- ==== Sys2Proof/WellFormed.lean ====
section
/-! DEFINITION. Which command words are well formed (30_encoding.md R91, R93): the fields of the format CMD32 and the three
checks on them. Every term of `Instr` is well formed, because its only operand is the one-bit M. -/

namespace Sys2Proof

/-- The fields of a CMD32 word (30_encoding.md R91). -/
structure Cmd32 where
  op  : BitVec 8
  m   : Bool
  res : BitVec 23
deriving DecidableEq, Repr

/-- The fields of a word: OP in bits 7:0, M in bit 8, RES in bits 31:9 (30_encoding.md R91). -/
def Cmd32.ofWord (w : Word) : Cmd32 :=
  { op := w.extractLsb' 0 8, m := w.getLsbD 8, res := w.extractLsb' 9 23 }

/-- The opcodes of the map of 30_encoding.md R94. -/
def assignedOps : List (BitVec 8) := [0x00, 0x01, 0x02, 0x03, 0x08, 0x09, 0x10, 0x11, 0x20]

/-- The opcodes whose M field carries a mode (30_encoding.md R92). -/
def modeOps : List (BitVec 8) := [0x10, 0x11]

/-- RES must be 0 (30_encoding.md R93). -/
def Cmd32.resOk (c : Cmd32) : Bool := c.res == 0

/-- OP must be in the table (30_encoding.md R93). -/
def Cmd32.opOk (c : Cmd32) : Bool := assignedOps.contains c.op

/-- M may be 1 only for CTL_MODE and CTL_CYCLE (30_encoding.md R93). -/
def Cmd32.modeOk (c : Cmd32) : Bool := !c.m || modeOps.contains c.op

/-- A legal command word (30_encoding.md R93, R95). -/
def Cmd32.wellFormed (c : Cmd32) : Bool := c.resOk && c.opOk && c.modeOk

/-- A legal command word, seen as a word. -/
def wellFormedWord (w : Word) : Bool := (Cmd32.ofWord w).wellFormed

/-- Every instruction term is well formed: both values of M are legal (30_encoding.md R92). -/
def Instr.wellFormed (i : Instr) : Bool :=
  match i with
  | .nop => true
  | .txSend => true
  | .txAck => true
  | .profClear => true
  | .rxAck => true
  | .rxCapture => true
  | .ctlMode _ => true
  | .ctlCycle _ => true
  | .faultClear => true

end Sys2Proof
end

