-- ==== Sys2Proof/Decode.lean ====
section
/-! DEFINITION. The decoder of command words, total on 32 bits (30_encoding.md R97), and the encoder beside it (R94). -/

namespace Sys2Proof

/-- The M field as a mode operand (30_encoding.md R92). -/
def modeOfBit (m : Bool) : Mode := if m then .on else .notOn

/-- `decode` of 30_encoding.md R97; `none` is Illegal. -/
def decode (w : Word) : Option Instr :=
  let op := w.extractLsb' 0 8
  let m := w.getLsbD 8
  if w.extractLsb' 9 23 ≠ 0 then none
  else if op = 0x10 then some (.ctlMode (modeOfBit m))
  else if op = 0x11 then some (.ctlCycle (modeOfBit m))
  else if m then none
  else if op = 0x00 then some .nop
  else if op = 0x01 then some .txSend
  else if op = 0x02 then some .txAck
  else if op = 0x03 then some .profClear
  else if op = 0x08 then some .rxAck
  else if op = 0x09 then some .rxCapture
  else if op = 0x20 then some .faultClear
  else none

/-- The M bit of a mode operand (30_encoding.md R92). -/
def bitOfMode (m : Mode) : Bool :=
  match m with
  | .on => true
  | .notOn => false

/-- A CMD32 word of its opcode and M bit, RES being 0 (30_encoding.md R91). -/
def cmdWord (op : BitVec 8) (m : Bool) : Word := (0 : BitVec 23) ++ BitVec.ofBool m ++ op

/-- The command word of an instruction, from the opcode map of 30_encoding.md R94. -/
def encode (i : Instr) : Word :=
  match i with
  | .nop => cmdWord 0x00 false
  | .txSend => cmdWord 0x01 false
  | .txAck => cmdWord 0x02 false
  | .profClear => cmdWord 0x03 false
  | .rxAck => cmdWord 0x08 false
  | .rxCapture => cmdWord 0x09 false
  | .ctlMode m => cmdWord 0x10 (bitOfMode m)
  | .ctlCycle m => cmdWord 0x11 (bitOfMode m)
  | .faultClear => cmdWord 0x20 false

/-- The instruction that the decoder reads from a table row's bits: the low `nbits` of `w`, every higher bit 0. A command is one
32-bit datum of a CMD write (30_encoding.md R90, R99), so no word or byte order enters. -/
def decodeTableWord (nbits w : Nat) : Option Instr := decode (BitVec.ofNat 32 (w % 2 ^ nbits))

end Sys2Proof
end

