-- ==== Sys2Proof/Machine/Operands.lean ====
section
/-! DEFINITION. The operands a command reads (30_encoding.md R96): the fields of CTRL, the sample and the threshold. -/

namespace Sys2Proof.Machine

/-- CTRL.TX_EN, bit 0 (10_state.md R28). -/
def State.txEn (s : State) : Bool := s.ctrl.getLsbD 0

/-- CTRL.RX_EN, bit 1 (10_state.md R28). -/
def State.rxEn (s : State) : Bool := s.ctrl.getLsbD 1

/-- CTRL.AUTO_TX, bit 2 (10_state.md R28). -/
def State.autoTx (s : State) : Bool := s.ctrl.getLsbD 2

/-- CTRL.IE_TX_DONE, bit 8 (10_state.md R28). -/
def State.ieTxDone (s : State) : Bool := s.ctrl.getLsbD 8

/-- CTRL.IE_RX_VALID, bit 9 (10_state.md R28). -/
def State.ieRxValid (s : State) : Bool := s.ctrl.getLsbD 9

/-- CTRL.IE_FAULT, bit 10 (10_state.md R28). -/
def State.ieFault (s : State) : Bool := s.ctrl.getLsbD 10

/-- `sext_32(CTL_VALUE)`, the sample (10_state.md R47, 30_encoding.md R96). -/
def State.sampleValue (s : State) : Int := s.ctlValue.toInt

/-- `sext_32(CTL_THRESH)`, the threshold (10_state.md R48, 30_encoding.md R96). -/
def State.threshold (s : State) : Int := s.ctlThresh.toInt

end Sys2Proof.Machine
end

