-- ==== Sys2Proof/Machine/Flags.lean ====
section
/-! DEFINITION. The flags of STATUS (10_state.md R30), the encodings of their fields, and the level of `irq`
(60_exceptions.md R270). They are the block's only condition flags (10_state.md R56). -/

namespace Sys2Proof.Machine

/-- FAULT.CODE as its 4 bits (60_exceptions.md R260). -/
def FaultCode.toBits (c : FaultCode) : BitVec 4 :=
  match c with
  | .none => 0
  | .illegalCmd => 1
  | .busError => 2
  | .sequence => 3
  | .txBusy => 4
  | .txDisabled => 5
  | .profileInvalid => 6
  | .noRx => 7
  | .channelConflict => 8
  | .fieldRange => 9

/-- STATUS.CTL_STATE: 0 is OUTER, 1 is ACTIVE (10_state.md R30). -/
def LoopState.toBit (l : LoopState) : Bool :=
  match l with
  | .outer => false
  | .active => true

/-- STATUS.PREV_MODE; 0b11 never occurs (10_state.md R30). -/
def PrevMode.toBits (m : PrevMode) : BitVec 2 :=
  match m with
  | .empty => 0
  | .notOn => 1
  | .on => 2

/-- STATUS.LAST_CLASS (10_state.md R30). -/
def SampleClass.toBits (c : SampleClass) : BitVec 2 :=
  match c with
  | .none => 0
  | .ok => 1
  | .bad => 2
  | .danger => 3

/-- STATUS.FAULT_PENDING: `FAULT.CODE != 0` (10_state.md R30). -/
def State.faultPending (s : State) : Bool := s.fault.code != .none

/-- STATUS.PROF_OK (40_pulse_codec.md R112). -/
def State.profOk (s : State) : Bool :=
  s.profValid == 0b11111#5 && (s.prof.bits == 32#6 || decide (s.prof.code.toNat < 2 ^ s.prof.bits.toNat))

/-- STATUS.RX_EQ_PROF (40_pulse_codec.md R113). -/
def State.rxEqProf (s : State) : Bool :=
  s.rx.valid && s.profValid.extractLsb' 0 3 == 0b111#3
    && s.rx.code == s.prof.code && s.rx.proto == s.prof.proto && s.rx.pulse == s.prof.pulse

/-- STATUS.PREV_THRESH_SET (10_state.md R30). -/
def State.prevThreshSet (s : State) : Bool := s.ctl.prevThresh.isSome

/-- The level `irq` takes at the end of a clock (60_exceptions.md R270). -/
def State.irqLevel (s : State) : Bool :=
  (s.ieTxDone && s.txDone) || (s.ieRxValid && s.rx.valid) || (s.ieFault && s.faultPending)

/-- The word STATUS reads as, bit 31 first (10_state.md R30). -/
def State.statusWord (s : State) : Word :=
  (0 : BitVec 15) ++ BitVec.ofBool s.irq ++ (0 : BitVec 1) ++ s.ctl.lastClass.toBits
    ++ BitVec.ofBool s.prevThreshSet ++ s.ctl.prevMode.toBits ++ BitVec.ofBool s.ctl.actuatorActive
    ++ BitVec.ofBool s.ctl.loop.toBit ++ (0 : BitVec 1) ++ BitVec.ofBool s.rxEqProf ++ BitVec.ofBool s.profOk
    ++ BitVec.ofBool s.faultPending ++ BitVec.ofBool s.rx.overrun ++ BitVec.ofBool s.rx.valid
    ++ BitVec.ofBool s.txDone ++ BitVec.ofBool s.tx.busy

/-- The word FAULT reads as: CODE in bits 3:0, OVERFLOW in bit 8 (10_state.md R32). -/
def State.faultWord (s : State) : Word :=
  (0 : BitVec 23) ++ BitVec.ofBool s.fault.overflow ++ (0 : BitVec 4) ++ s.fault.code.toBits

end Sys2Proof.Machine
end

