-- ==== Sys2Proof/Machine/Ops.lean ====
section
/-! DEFINITION. The shared operations: recording a fault (this block's exception entry, 60_exceptions.md R262) and the return
from it (R268), the block test of a command (R264), and the register space: its map (10_state.md R26) and reads (44_system.md R242). -/

namespace Sys2Proof.Machine

/-- The outcome of a meaning. -/
abbrev Result := Host.Outcome State Fault Refusal

/-- The fault record after a fault: the first fault is kept, a later one only sets OVERFLOW (60_exceptions.md R262, R263). -/
def FaultRec.record (f : FaultRec) (code : FaultCode) (info addr : Word) : FaultRec :=
  if f.code = .none then { code := code, overflow := f.overflow, info := info, addr := addr }
  else { f with overflow := true }

/-- `raise Fault(code, info, addr)` (60_exceptions.md R262): it writes the fault record and nothing else. The caller ends the command
or access. -/
def State.raise (s : State) (code : FaultCode) (info addr : Word) : State := s.setFault (s.fault.record code info addr)

/-- The return from a fault: FAULT, FAULT_INFO and FAULT_ADDR become 0, nothing is executed again (60_exceptions.md R268,
44_system.md R241). -/
def State.acknowledgeFault (s : State) : State := s.setFault FaultRec.clear

/-- FAULT_ADDR of a command: a write at offset 0x0C (10_state.md R34). -/
def cmdAddr : Word := 0x8000000C

/-- FAULT_ADDR of a bus write: bit 31 set, the offset in bits 7:0 (10_state.md R34). -/
def writeAddr (off : Offset) : Word := 0x80000000 ||| off.setWidth 32

/-- FAULT_ADDR of a bus read: bit 31 clear (10_state.md R34). -/
def readAddr (off : Offset) : Word := off.setWidth 32

/-- A fault of a command: FAULT_INFO is its word, FAULT_ADDR the CMD write (10_state.md R33, R34). -/
def State.raiseCmd (s : State) (code : FaultCode) (i : Instr) : State := s.raise code (encode i) cmdAddr

/-- Run a command, or block it: while FAULT.CODE is not 0 it sets OVERFLOW and has no other effect (60_exceptions.md R264). -/
def State.unlessBlocked (s : State) (run : State → State) : State :=
  if s.faultPending then s.setFault { s.fault with overflow := true } else run s

/-- The host-visible registers (10_state.md R26). -/
inductive RegName where
  | id | ctrl | status | cmd | fault | faultInfo | faultAddr | timer
  | profCode | profProto | profPulse | profBits | profRepeat | profValid
  | rxCode | rxProto | rxPulse | rxBits | rxTs
  | ctlValue | ctlThresh | ctlPrevThresh | intent | ctlSeq | txFrames
deriving DecidableEq, Repr, Inhabited

/-- The access codes of the register map (10_state.md R26). -/
inductive RegAccess where
  | ro
  | rw
  | wo
deriving DecidableEq, Repr, Inhabited

/-- The byte offset of a register (10_state.md R26). -/
def RegName.offset (r : RegName) : Offset :=
  match r with
  | .id => 0x00 | .ctrl => 0x04 | .status => 0x08 | .cmd => 0x0C
  | .fault => 0x10 | .faultInfo => 0x14 | .faultAddr => 0x18 | .timer => 0x1C
  | .profCode => 0x20 | .profProto => 0x24 | .profPulse => 0x28 | .profBits => 0x2C
  | .profRepeat => 0x30 | .profValid => 0x34 | .rxCode => 0x38 | .rxProto => 0x3C
  | .rxPulse => 0x40 | .rxBits => 0x44 | .rxTs => 0x48 | .ctlValue => 0x4C
  | .ctlThresh => 0x50 | .ctlPrevThresh => 0x54 | .intent => 0x58 | .ctlSeq => 0x5C
  | .txFrames => 0x60

/-- The registers in the order of their offsets (10_state.md R26). -/
def allRegs : List RegName :=
  [.id, .ctrl, .status, .cmd, .fault, .faultInfo, .faultAddr, .timer,
   .profCode, .profProto, .profPulse, .profBits, .profRepeat, .profValid,
   .rxCode, .rxProto, .rxPulse, .rxBits, .rxTs,
   .ctlValue, .ctlThresh, .ctlPrevThresh, .intent, .ctlSeq, .txFrames]

/-- The register at an offset; `none` for a misaligned or unmapped one (10_state.md R26, 20_memory.md R72, R73). -/
def regAt (off : Offset) : Option RegName := allRegs.find? (fun r => r.offset == off)

/-- Whether the host may write a register (10_state.md R26). -/
def RegName.access (r : RegName) : RegAccess :=
  match r with
  | .ctrl | .profCode | .profProto | .profPulse | .profBits | .profRepeat | .ctlValue | .ctlThresh => .rw
  | .cmd => .wo
  | .id | .status | .fault | .faultInfo | .faultAddr | .timer | .profValid
  | .rxCode | .rxProto | .rxPulse | .rxBits | .rxTs
  | .ctlPrevThresh | .intent | .ctlSeq | .txFrames => .ro

/-- `value(off)`: what a register reads as, its reserved bits 0 (44_system.md R242, 10_state.md R27 to R52). -/
def State.readReg (s : State) (r : RegName) : Word :=
  match r with
  | .id => Config.idValue
  | .ctrl => s.ctrl
  | .status => s.statusWord
  | .cmd => 0
  | .fault => s.faultWord
  | .faultInfo => s.fault.info
  | .faultAddr => s.fault.addr
  | .timer => s.timer
  | .profCode => s.prof.code
  | .profProto => s.prof.proto.setWidth 32
  | .profPulse => s.prof.pulse.setWidth 32
  | .profBits => s.prof.bits.setWidth 32
  | .profRepeat => s.prof.reps.setWidth 32
  | .profValid => s.profValid.setWidth 32
  | .rxCode => s.rx.code
  | .rxProto => s.rx.proto.setWidth 32
  | .rxPulse => s.rx.pulse.setWidth 32
  | .rxBits => s.rx.bits.setWidth 32
  | .rxTs => s.rx.ts
  | .ctlValue => s.ctlValue
  | .ctlThresh => s.ctlThresh
  | .ctlPrevThresh => s.ctl.prevThresh.getD 0
  | .intent => s.intent.setWidth 32
  | .ctlSeq => s.ctlSeq
  | .txFrames => s.tx.frames.setWidth 32

/-- Byte `k` of the word a register reads as: bits `8k+7 : 8k`, little-endian (20_memory.md R74). -/
def State.regByte (s : State) (r : RegName) (k : Fin 4) : Byte := (s.readReg r).extractLsb' (8 * k.val) 8

/-- `BusRead(off)` (44_system.md R242): the state after the access, and the datum on `bus_rdata`. -/
def State.busRead (s : State) (off : Offset) : State × Word :=
  match regAt off with
  | none => (s.raise .busError 0 (readAddr off), 0)
  | some r => (s, s.readReg r)

/-- Set PROF_VALID bit `k` (10_state.md R41). -/
def State.markProfSet (s : State) (k : Nat) : State := s.setProfValid (s.profValid ||| 1#5 <<< k)

/-- The bits a CTRL write stores: 0, 1, 2, 8, 9 and 10 (10_state.md R28, 44_system.md R243). -/
def ctrlMask : Word := 0x00000707

/-- A CTRL write: refused with CHANNEL_CONFLICT (42_tx_actuator.md R185) or TX_BUSY (R186), or stored (10_state.md R28). -/
def State.writeCtrl (s : State) (v : Word) : State :=
  if v.getLsbD 0 && v.getLsbD 1 then s.raise .channelConflict v (writeAddr 0x04)
  else if !v.getLsbD 0 && s.tx.busy then s.raise .txBusy v (writeAddr 0x04)
  else s.setCtrl (v &&& ctrlMask)

/-- A profile field write: legal iff `1 <= v <= hi` as unsigned, else FIELD_RANGE and nothing else (10_state.md R37 to R40). -/
def State.writeField (s : State) (r : RegName) (hi : Nat) (v : Word) (store : State → State) : State :=
  if v.toNat < 1 ∨ hi < v.toNat then s.raise .fieldRange v (writeAddr r.offset) else store s

/-- A PROF_CODE write: every value is legal (10_state.md R36). -/
def State.writeProfCode (s : State) (v : Word) : State :=
  (s.setProf { s.prof with code := v }).markProfSet 0

/-- A PROF_PROTO write (10_state.md R37). -/
def State.writeProfProto (s : State) (v : Word) : State :=
  s.writeField .profProto Config.nProto v fun t => (t.setProf { t.prof with proto := v.setWidth 8 }).markProfSet 1

/-- A PROF_PULSE write (10_state.md R38). -/
def State.writeProfPulse (s : State) (v : Word) : State :=
  s.writeField .profPulse 65535 v fun t => (t.setProf { t.prof with pulse := v.setWidth 16 }).markProfSet 2

/-- A PROF_BITS write (10_state.md R39). -/
def State.writeProfBits (s : State) (v : Word) : State :=
  s.writeField .profBits 32 v fun t => (t.setProf { t.prof with bits := v.setWidth 6 }).markProfSet 3

/-- A PROF_REPEAT write (10_state.md R40). -/
def State.writeProfRepeat (s : State) (v : Word) : State :=
  s.writeField .profRepeat 255 v fun t => (t.setProf { t.prof with reps := v.setWidth 8 }).markProfSet 4

end Sys2Proof.Machine
end

