-- ==== Sys2Proof/Machine/Transmit.lean ====
section
/-! DEFINITION. The transmit engine and its commands (42_tx_actuator.md): TX_SEND, TX_ACK, PROF_CLEAR. -/

namespace Sys2Proof.Machine

/-- The preconditions of a transmission, in their order (42_tx_actuator.md R181, 60_exceptions.md R266). -/
def State.txRefusal (s : State) : Option FaultCode :=
  if s.tx.busy then some .txBusy
  else if !s.txEn then some .txDisabled
  else if !s.profOk then some .profileInvalid
  else none

/-- `tx_start()` (42_tx_actuator.md R181). -/
def State.txStart (s : State) : State :=
  s.setTx { busy := true, snap := s.prof, seq := s.prof.segments, pos := 0, left := 0, frames := 0 }

/-- TX_SEND (42_tx_actuator.md R181). -/
def execTxSend (s : State) : Result :=
  .next (s.unlessBlocked fun s =>
    match s.txRefusal with
    | some code => s.raiseCmd code .txSend
    | none => s.txStart)

/-- TX_ACK (42_tx_actuator.md R188). -/
def execTxAck (s : State) : Result :=
  .next (s.unlessBlocked fun s => s.setTxDone false)

/-- PROF_CLEAR (42_tx_actuator.md R190). -/
def execProfClear (s : State) : Result :=
  .next (s.unlessBlocked fun s => (s.setProf Profile.cleared).setProfValid 0)

/-- TX_FRAMES when the engine has come to the end of a segment: one more when that ends a frame (42_tx_actuator.md R182). -/
def TxEngine.framesDone (x : TxEngine) : BitVec 8 :=
  if 0 < x.pos ∧ x.pos % (2 * x.snap.bits.toNat + 2) = 0 then x.frames + 1 else x.frames

/-- What the transmit engine drives: its own state, STATUS.TX_DONE and `rf_tx_out` (10_state.md R54, R57). -/
structure TxPort where
  engine : TxEngine
  done   : Bool
  line   : Bool
deriving DecidableEq, Repr, Inhabited

/-- The transmit engine's part of a state. -/
def State.txPort (s : State) : TxPort := { engine := s.tx, done := s.txDone, line := s.rfTxOut }

/-- Put the transmit engine's part into a state. -/
def State.setTxPort (s : State) (p : TxPort) : State := ((s.setTx p.engine).setTxDone p.done).setRfTxOut p.line

/-- `tx_tick()` (42_tx_actuator.md R182), run at a tick while `tx_busy` = 1. The end of the list is `tx_pos = len(tx_seq)`; a
`tx_pos` beyond it, which no run reaches, ends the transmission too (log 11). -/
def TxPort.tick (p : TxPort) : TxPort :=
  let x := p.engine
  if x.left = 0 then
    match x.seq[x.pos]? with
    | none => { engine := { x with busy := false, frames := x.framesDone }, done := true, line := p.line }
    | some g =>
      { engine := { x with frames := x.framesDone, pos := x.pos + 1, left := g.ticks - 1 }, done := p.done, line := g.level }
  else
    { p with engine := { x with left := x.left - 1 } }

/-- The transmit engine's part of a clock; `c` says whether the clock carries a tick (42_tx_actuator.md R180, R182). -/
def State.txStage (c : Bool) (s : State) : State :=
  s.setTxPort (if c && s.tx.busy then s.txPort.tick else s.txPort)

end Sys2Proof.Machine
end

