-- ==== Sys2Proof/Machine/Control.lean ====
section
/-! DEFINITION. The control hysteresis state machine (43_control_fsm.md): CTL_MODE and CTL_CYCLE. -/

namespace Sys2Proof.Machine

/-- `classify(v, t)`: BAD is tested first (43_control_fsm.md R200, R201). -/
def classify (v t : Int) : SampleClass :=
  if t < v then .bad
  else if Config.dangerLimit < v then .danger
  else .ok

/-- The intents (43_control_fsm.md R203). -/
inductive Intent where
  | dispClear | dispNormal | dispSleep | notifyStartup | notifyOff | telemetry | notifyOk | dispOkInactive
  | notifyBad | toggle | notifyActivated | dispBadActive | notifyDeactivated | alertPulse | dispDanger
  | notifyDanger | textAlert | notifyThresh
deriving DecidableEq, Repr, Inhabited

/-- The bit number of an intent in INTENT (43_control_fsm.md R203). -/
def Intent.bit (i : Intent) : Nat :=
  match i with
  | .dispClear => 0 | .dispNormal => 1 | .dispSleep => 2 | .notifyStartup => 3 | .notifyOff => 4
  | .telemetry => 5 | .notifyOk => 6 | .dispOkInactive => 7 | .notifyBad => 8 | .toggle => 9
  | .notifyActivated => 10 | .dispBadActive => 11 | .notifyDeactivated => 12 | .alertPulse => 13
  | .dispDanger => 14 | .notifyDanger => 15 | .textAlert => 16 | .notifyThresh => 17

/-- The intents in ascending bit order, the order in which the intents of a command are performed (43_control_fsm.md R204). -/
def allIntents : List Intent :=
  [.dispClear, .dispNormal, .dispSleep, .notifyStartup, .notifyOff, .telemetry, .notifyOk, .dispOkInactive,
   .notifyBad, .toggle, .notifyActivated, .dispBadActive, .notifyDeactivated, .alertPulse, .dispDanger,
   .notifyDanger, .textAlert, .notifyThresh]

/-- The INTENT value of a set of emitted intents (43_control_fsm.md R203, 10_state.md R50). -/
def intentMask (l : List Intent) : IntentMask := l.foldr (fun i m => 1#18 <<< i.bit ||| m) 0

/-- The intents an INTENT value asks for, in the order they are performed (43_control_fsm.md R204). -/
def intentsOf (m : IntentMask) : List Intent := allIntents.filter fun i => m.getLsbD i.bit

/-- Where the host reads an intent's payload (43_control_fsm.md R203). -/
inductive Payload where
  | none
  | value
  | threshold
  | profile
deriving DecidableEq, Repr, Inhabited

/-- The payload of each intent (43_control_fsm.md R203). -/
def Intent.payload (i : Intent) : Payload :=
  match i with
  | .telemetry | .notifyBad | .notifyDanger | .textAlert => .value
  | .notifyThresh => .threshold
  | .toggle => .profile
  | .dispClear | .dispNormal | .dispSleep | .notifyStartup | .notifyOff | .notifyOk | .dispOkInactive
  | .notifyActivated | .dispBadActive | .notifyDeactivated | .alertPulse | .dispDanger => .none

/-- A controller command has completed: INTENT is overwritten and CTL_SEQ counts it (10_state.md R50, R51). -/
def State.complete (s : State) (intents : List Intent) : State :=
  (s.setIntent (intentMask intents)).setCtlSeq (s.ctlSeq + 1)

/-- The body of CTL_MODE in OUTER (43_control_fsm.md R206): the ON transition (R207), the OFF transition (R208), or no change
(R209). -/
def State.modePoll (s : State) (m : Mode) : State :=
  match m with
  | .on =>
    if s.ctl.prevMode ≠ .on then
      (s.setCtl { s.ctl with prevThresh := none, loop := .active, prevMode := .on }).complete
        [.dispClear, .dispNormal, .notifyStartup]
    else s.complete []
  | .notOn =>
    if s.ctl.prevMode ≠ .notOn then
      (s.setCtl { s.ctl with actuatorActive := false, prevMode := .notOn }).complete
        [.dispClear, .dispSleep, .notifyOff]
    else s.complete []

/-- CTL_MODE (43_control_fsm.md R206). -/
def execCtlMode (m : Mode) (s : State) : Result :=
  .next (s.unlessBlocked fun s =>
    match s.ctl.loop with
    | .active => s.raiseCmd .sequence (.ctlMode m)
    | .outer => s.modePoll m)

/-- Whether a cycle of class `cls` toggles the actuator: only on an edge of the shadow flag (43_control_fsm.md R210, R211). -/
def toggleDue (cls : SampleClass) (active : Bool) : Bool :=
  (cls == .bad && !active) || (cls == .ok && active)

/-- The intents of step 3 of a cycle (43_control_fsm.md R210). -/
def classIntents (cls : SampleClass) (active : Bool) : List Intent :=
  match cls with
  | .bad => if active then [.notifyBad] else [.notifyBad, .toggle, .notifyActivated, .dispBadActive]
  | .danger => [.alertPulse, .dispDanger, .notifyDanger, .textAlert]
  | .ok => if active then [.notifyOk, .dispOkInactive, .toggle, .notifyDeactivated] else [.notifyOk, .dispOkInactive]
  | .none => []

/-- The shadow flag after step 3 of a cycle: BAD sets it, OK clears it, DANGER leaves it (43_control_fsm.md R210, R211). -/
def activeAfter (cls : SampleClass) (active : Bool) : Bool :=
  match cls with
  | .bad => true
  | .ok => false
  | .danger => active
  | .none => active

/-- Step 5 of a cycle: the threshold notification, when unset or different (43_control_fsm.md R213). -/
def threshIntents (prev : Option Sample) (t : Sample) : List Intent :=
  if prev = some t then [] else [.notifyThresh]

/-- Step 6 of a cycle: a mode that has left ON returns to OUTER (43_control_fsm.md R214). -/
def loopAfter (m : Mode) (l : LoopState) : LoopState :=
  match m with
  | .on => l
  | .notOn => .outer

/-- The classification of the sample in the operand registers (43_control_fsm.md R210). -/
def State.cycleClass (s : State) : SampleClass := classify s.sampleValue s.threshold

/-- Whether the cycle starts a transmission itself: a toggle is due and AUTO_TX = 1 (43_control_fsm.md R212). -/
def State.autoToggle (s : State) : Bool := toggleDue s.cycleClass s.ctl.actuatorActive && s.autoTx

/-- The effect of a cycle that does not fault (43_control_fsm.md R210, steps 2 to 6). -/
def State.cycle (s : State) (m : Mode) : State :=
  let cls := s.cycleClass
  let t := (s.setCtl
    { loop := loopAfter m s.ctl.loop
      prevMode := s.ctl.prevMode
      actuatorActive := activeAfter cls s.ctl.actuatorActive
      prevThresh := some s.ctlThresh
      lastClass := cls }).complete
        (.telemetry :: classIntents cls s.ctl.actuatorActive ++ threshIntents s.ctl.prevThresh s.ctlThresh)
  if s.autoToggle then t.txStart else t

/-- The fault of a cycle, if any: SEQUENCE, or a precondition of an automatic toggle; all checks come before any write
(43_control_fsm.md R210, R215). -/
def State.cycleRefusal (s : State) : Option FaultCode :=
  match s.ctl.loop with
  | .outer => some .sequence
  | .active => if s.autoToggle then s.txRefusal else none

/-- CTL_CYCLE (43_control_fsm.md R210). -/
def execCtlCycle (m : Mode) (s : State) : Result :=
  .next (s.unlessBlocked fun s =>
    match s.cycleRefusal with
    | some code => s.raiseCmd code (.ctlCycle m)
    | none => s.cycle m)

end Sys2Proof.Machine
end

