-- ==== Sys2Proof/Machine/Receive.lean ====
section
/-! DEFINITION. The receive decoder and its commands (41_rx_decoder.md): RX_ACK, RX_CAPTURE. -/

namespace Sys2Proof.Machine

/-- What a decoded frame gives the latch: `(code, p, T, n)` (41_rx_decoder.md R145). -/
structure Reception where
  code  : Nat
  proto : Nat
  pulse : Nat
  bits  : Nat
deriving DecidableEq, Repr, Inhabited

/-- The pulse length estimated from the gap before the frame (41_rx_decoder.md R148). -/
def estPulse (tm : Timing) (gp : Nat) : Nat := gp / tm.syncLow

/-- The tolerance at pulse length `t` (41_rx_decoder.md R148). -/
def tolerance (t : Nat) : Nat := t * Config.rxTolPct / 100

/-- Whether an interval pair matches a symbol, strictly within the tolerance (41_rx_decoder.md R149). -/
def matchesSymbol (t tol high low h l : Nat) : Bool :=
  decide (absDiff h (t * high) < tol) && decide (absDiff l (t * low) < tol)

/-- One data bit: the zero test first, then the one test (41_rx_decoder.md R149). -/
def decodeBit (tm : Timing) (t tol h l : Nat) : Option Bool :=
  if matchesSymbol t tol tm.zeroHigh tm.zeroLow h l then some false
  else if matchesSymbol t tol tm.oneHigh tm.oneLow h l then some true
  else none

/-- The data bits of a buffer, first received most significant, added to the code so far (41_rx_decoder.md R145, R149). The
interval left over at the end is the sync high, which is not examined (R153). -/
def decodeBits (tm : Timing) (t tol : Nat) : List Nat → Nat → Option Nat
  | h :: l :: rest, code =>
    match decodeBit tm t tol h l with
    | some b => decodeBits tm t tol rest (code * 2 + b.toNat)
    | none => none
  | [_], code => some code
  | [], code => some code

/-- One protocol's try at a frame of `n` data bits (41_rx_decoder.md R145, R148, R151). -/
def tryProtocol (buf : List Nat) (gp n p : Nat) : Option Reception :=
  let tm := timing p
  let t := estPulse tm gp
  if t < 1 ∨ 65535 < t then none
  else
    match decodeBits tm t (tolerance t) buf 0 with
    | some code => if code ≠ 0 then some { code := code, proto := p, pulse := t, bits := n } else none
    | none => none

/-- The protocols, tried in ascending number (41_rx_decoder.md R150). -/
def protocols : List Nat := List.range' 1 Config.nProto

/-- `rx_decode(B, gp, gn)` (41_rx_decoder.md R145 to R151): the frame to latch, if any. -/
def rxDecode (buf : List Nat) (gp gn : Nat) : Option Reception :=
  let n := (buf.length - 1) / 2
  if Config.rxGapMatch ≤ absDiff gn gp then none
  else if buf.length % 2 = 0 then none
  else if n < Config.rxMinBits ∨ Config.rxMaxBits < n then none
  else protocols.findSome? (tryProtocol buf gp n)

/-- `sat(d + 1)` (00_scope.md R6, 41_rx_decoder.md R142). -/
def satInc (d : Dur) : Dur := BitVec.ofNat 24 (min (d.toNat + 1) Config.durMax)

/-- Whether an interval that has ended is a gap: low, and long enough (41_rx_decoder.md R143; log 16). -/
def isGap (lvl : Bool) (d : Dur) : Bool := !lvl && decide (Config.rxGapMin ≤ d.toNat)

/-- The decoder at an edge that is not the first, after an interval of level `lvl` and length `d`
(41_rx_decoder.md R142, R144). -/
def RxDecoder.endInterval (x : RxDecoder) (lvl : Bool) (d : Dur) : RxDecoder :=
  if isGap lvl d then { x with gprev := d, haveRef := true, buf := [], ovf := false }
  else if x.haveRef then
    if x.buf.length < Config.rxBufMax then { x with buf := x.buf ++ [d] } else { x with ovf := true }
  else x

/-- The frame an edge closes: only a gap with a reference gap before it and no overflow closes one (41_rx_decoder.md R142). -/
def RxDecoder.closedFrame (x : RxDecoder) (lvl : Bool) (d : Dur) : Option Reception :=
  if isGap lvl d && x.haveRef && !x.ovf then rxDecode (x.buf.map BitVec.toNat) x.gprev.toNat d.toNat else none

/-- `rx_tick(s)` (41_rx_decoder.md R142): the decoder after a sample, and the frame decoded in that tick, if any. -/
def RxDecoder.tick (x : RxDecoder) (smp : Bool) : RxDecoder × Option Reception :=
  if !x.primed then ({ x with level := smp, dur := 0, primed := true }, none)
  else if smp = x.level then ({ x with dur := satInc x.dur }, none)
  else
    let d := satInc x.dur
    let y := { x with level := smp, dur := 0 }
    if !x.seenEdge then ({ y with seenEdge := true }, none)
    else (y.endInterval x.level d, x.closedFrame x.level d)

/-- `rx_latch(code, p, T, n)` at a given TIMER, which has already been incremented in this tick (41_rx_decoder.md R152). -/
def RxLatch.latch (x : RxLatch) (r : Reception) (now : Word) : RxLatch :=
  { valid := true
    overrun := x.valid || x.overrun
    code := BitVec.ofNat 32 r.code
    proto := BitVec.ofNat 8 r.proto
    pulse := BitVec.ofNat 16 r.pulse
    bits := BitVec.ofNat 6 r.bits
    ts := now }

/-- What the receive decoder drives: its own state and the latch (10_state.md R42 to R46, R55). -/
structure RxPort where
  dec   : RxDecoder
  latch : RxLatch
deriving DecidableEq, Repr, Inhabited

/-- The receive decoder's part of a state. -/
def State.rxPort (s : State) : RxPort := { dec := s.dec, latch := s.rx }

/-- Put the receive decoder's part into a state. -/
def State.setRxPort (s : State) (p : RxPort) : State := (s.setDec p.dec).setRx p.latch

/-- A tick of the decoder on a sample: a decoded frame is latched in the same tick (41_rx_decoder.md R142, R152). -/
def RxPort.tick (p : RxPort) (smp : Bool) (now : Word) : RxPort :=
  let r := p.dec.tick smp
  { dec := r.1
    latch :=
      match r.2 with
      | some x => p.latch.latch x now
      | none => p.latch }

/-- The receive decoder's part of a clock; `c` says whether the clock carries a tick. The sample is the synchronised level
(41_rx_decoder.md R141, 10_state.md R23; log 8). -/
def State.rxStage (c : Bool) (s : State) : State :=
  s.setRxPort (if c && s.rxEn then s.rxPort.tick s.sync.stage2 s.timer else s.rxPort)

/-- While RX_EN = 0 the decoder is held in its initial state (41_rx_decoder.md R140; log 4). -/
def State.holdDecoder (s : State) : State := s.setDec (if s.rxEn then s.dec else RxDecoder.initial)

/-- RX_ACK (41_rx_decoder.md R160). -/
def execRxAck (s : State) : Result :=
  .next (s.unlessBlocked fun s => s.setRx { s.rx with valid := false, overrun := false })

/-- The candidate profile of a reception (41_rx_decoder.md R162). -/
def RxLatch.candidate (r : RxLatch) : Profile :=
  { code := r.code, proto := r.proto, pulse := r.pulse, bits := Config.captureBits, reps := Config.captureRepeat }

/-- RX_CAPTURE (41_rx_decoder.md R162). -/
def execRxCapture (s : State) : Result :=
  .next (s.unlessBlocked fun s =>
    if !s.rx.valid then s.raiseCmd .noRx .rxCapture
    else (s.setProf s.rx.candidate).setProfValid 0b11111#5)

end Sys2Proof.Machine
end

