-- ==== Sys2Proof/Machine/System.lean ====
section
/-! DEFINITION. The system commands (44_system.md): NOP and FAULT_CLEAR. Neither is ever blocked (30_encoding.md R98). -/

namespace Sys2Proof.Machine

/-- NOP (44_system.md R240): not blocked, and it sets no OVERFLOW. -/
def execNop (s : State) : Result := .next s

/-- FAULT_CLEAR (44_system.md R241): never blocked. -/
def execFaultClear (s : State) : Result := .next s.acknowledgeFault

end Sys2Proof.Machine
end

