-- ==== Sys2Proof/Machine/Dispatch.lean ====
section
/-! DEFINITION. One arm per command: `execute(c)` of 30_encoding.md R98, each meaning with its own block test (log 15). -/

namespace Sys2Proof.Machine

def exec (i : Instr) (s : State) : Host.Outcome State Fault Refusal :=
  match i with
  | .nop => Sys2Proof.Machine.execNop s
  | .txSend => Sys2Proof.Machine.execTxSend s
  | .txAck => Sys2Proof.Machine.execTxAck s
  | .profClear => Sys2Proof.Machine.execProfClear s
  | .rxAck => Sys2Proof.Machine.execRxAck s
  | .rxCapture => Sys2Proof.Machine.execRxCapture s
  | .ctlMode m => Sys2Proof.Machine.execCtlMode m s
  | .ctlCycle m => Sys2Proof.Machine.execCtlCycle m s
  | .faultClear => Sys2Proof.Machine.execFaultClear s

end Sys2Proof.Machine
end

