-- ==== Sys2Proof/Machine/Bus.lean ====
section
/-! DEFINITION. The host's accesses (44_system.md R242, R243, R244) and the issue of a command (30_encoding.md R98). -/

namespace Sys2Proof.Machine

/-- An illegal command word: blocked like any other command, else ILLEGAL_CMD (30_encoding.md R93, R98; 60_exceptions.md R266). -/
def State.illegalCmd (s : State) (w : Word) : State :=
  s.unlessBlocked fun s => s.raise .illegalCmd w cmdAddr

/-- `issue(w)` (30_encoding.md R98). The block test of a legal command stands in its meaning (log 15). -/
def issue (w : Word) (s : State) : Result :=
  match decode w with
  | some i => exec i s
  | none => .next (s.illegalCmd w)

/-- A BUS_ERROR of a write (44_system.md R243). -/
def State.writeError (s : State) (off : Offset) (v : Word) : State := s.raise .busError v (writeAddr off)

/-- A write to a mapped register (44_system.md R243). -/
def writeReg (r : RegName) (v : Word) (s : State) : Result :=
  match r with
  | .ctrl => .next (s.writeCtrl v)
  | .cmd => issue v s
  | .profCode => .next (s.writeProfCode v)
  | .profProto => .next (s.writeProfProto v)
  | .profPulse => .next (s.writeProfPulse v)
  | .profBits => .next (s.writeProfBits v)
  | .profRepeat => .next (s.writeProfRepeat v)
  | .ctlValue => .next (s.setCtlValue v)
  | .ctlThresh => .next (s.setCtlThresh v)
  | .id | .status | .fault | .faultInfo | .faultAddr | .timer | .profValid
  | .rxCode | .rxProto | .rxPulse | .rxBits | .rxTs
  | .ctlPrevThresh | .intent | .ctlSeq | .txFrames => .next (s.writeError r.offset v)

/-- `BusWrite(off, v)` (44_system.md R243). -/
def busWrite (off : Offset) (v : Word) (s : State) : Result :=
  match regAt off with
  | some r => writeReg r v s
  | none => .next (s.writeError off v)

/-- The access of a clock (44_system.md R242, R243, R244). -/
def accessStage (a : Access) (s : State) : Result :=
  match a with
  | .idle => .next s
  | .read off => .next (s.busRead off).1
  | .write off v => busWrite off v s

/-- `bus_rdata` in the clock of an access at state `s`: valid with a read only (10_state.md R22, 20_memory.md R75; log 10). -/
def readDatum (a : Access) (s : State) : Option Word :=
  match a with
  | .idle => none
  | .read off => some (s.busRead off).2
  | .write _ _ => none

/-- The access the raw ports stand for: `bus_wr` counts only with `bus_sel` = 1 (10_state.md R22). -/
def accessOfPorts (sel wr : Bool) (addr : Offset) (wdata : Word) : Access :=
  if !sel then .idle else if wr then .write addr wdata else .read addr

end Sys2Proof.Machine
end

