-- ==== Sys2Proof/Machine/Clock.lean ====
section
/-! DEFINITION. One clock of the block (00_scope.md R8): reset, the access, the tick (TIMER, transmit engine, receive decoder), the
synchroniser, and `irq`. The divider is an argument, so that a clock can be evaluated for one value of TICK_DIV. -/

namespace Sys2Proof.Machine

/-- Whether a clock carries a tick (10_state.md R24). -/
def State.carriesTick (div : Nat) (s : State) : Bool := s.tickCnt == div - 1

/-- The tick divider's part of a clock; `c` says whether the clock carries a tick (10_state.md R24). -/
def State.dividerStage (c : Bool) (s : State) : State := s.setTickCnt (if c then 0 else s.tickCnt + 1)

/-- The TIMER's part of a clock; `c` says whether the clock carries a tick (10_state.md R25). -/
def State.timerStage (c : Bool) (s : State) : State := s.setTimer (if c then s.timer + 1 else s.timer)

/-- The divider, and at a tick TIMER, then the transmit engine, then the receive decoder (00_scope.md R8). -/
def State.tickStage (div : Nat) (s : State) : State :=
  let c := s.carriesTick div
  (((s.dividerStage c).timerStage c).txStage c).rxStage c

/-- The synchroniser at the end of a clock (10_state.md R23, 70_reset_and_hazards.md R303; log 8). -/
def State.syncStage (rxIn : Bool) (s : State) : State := s.setSync { stage1 := rxIn, stage2 := s.sync.stage1 }

/-- The `irq` register at the end of a clock, after the access and the tick (60_exceptions.md R270). -/
def State.irqStage (s : State) : State := s.setIrq s.irqLevel

/-- The clock's entry of the schedule is used up (log 2, log 3). -/
def State.consumeInput (s : State) : State := (s.setInputs s.inputs.tail).setClock (s.clock + 1)

/-- Everything in a clock after the access (00_scope.md R8, 60_exceptions.md R270). -/
def State.endClock (div : Nat) (rxIn : Bool) (s : State) : State :=
  (s.tickStage div).holdDecoder.irqStage.syncStage rxIn |>.consumeInput

/-- What a reset clock answers on `bus_rdata`: a read returns 0 (70_reset_and_hazards.md R290). -/
def resetReadData (a : Access) : Option Word :=
  match a with
  | .read _ => some 0
  | .idle => none
  | .write _ _ => none

/-- A clock with `rst_n` = 0: every piece of state takes its reset value and the access is ignored
(70_reset_and_hazards.md R290, R291; log 7). The model's own fields go on. -/
def State.resetClock (s : State) (a : Access) : State :=
  (State.reset.setInputs s.inputs).setClock s.clock |>.consumeInput |>.setReadData (resetReadData a)

/-- One clock of the block (00_scope.md R8, 70_reset_and_hazards.md R290). -/
def clockStep (div : Nat) (c : ClockIn) (s : State) : Result :=
  if !c.rstN then .next (s.resetClock c.access)
  else
    match accessStage c.access s with
    | .next t => .next ((t.setReadData (readDatum c.access s)).endClock div c.rxIn)
    | .fault f => .fault f
    | .refused r => .refused r

/-- The inputs of the coming clock: the head of the schedule, or, when nothing is scheduled, no reset, no access and a free line
level (log 2, log 3). -/
def State.nextInput (s : State) : ClockIn :=
  match s.inputs with
  | c :: _ => c
  | [] => { rstN := true, access := .idle, rxIn := Config.idleRxLevel s.clock }

/-- The state whose coming clock carries a given access; reset is released, and the line level and later clocks stay as they are. -/
def State.withAccess (s : State) (a : Access) : State :=
  s.setInputs ({ s.nextInput with rstN := true, access := a } :: s.inputs.tail)

end Sys2Proof.Machine
end

