-- ==== Sys2Proof/Machine/Step.lean ====
section
/-! DEFINITION. One step: one clock of the block on the next entry of its schedule of inputs. -/

namespace Sys2Proof.Machine

/-- One clock of the block (00_scope.md R8), with this hardware's TICK_DIV (00_scope.md R5; log 1). -/
def step (s : State) : Host.Outcome State Fault Refusal := clockStep Config.tickDiv s.nextInput s

/-- The block fetches no instructions (10_state.md R21): the next step runs a command when the coming clock carries a write of its
word to CMD (30_encoding.md R90; log 2). -/
def State.withFetchWord (s : State) (nbits w : Nat) : State :=
  s.withAccess (.write RegName.cmd.offset (BitVec.ofNat 32 (w % 2 ^ nbits)))

end Sys2Proof.Machine
end

