-- ==== Sys2Proof/Safety.lean ====
section
/-! DEFINITION. What counts as a safe state of the block: the legal states its rules keep it in. And the runs that claims speak of:
ticks of the transmit engine, samples fed to the decoder, a run of controller cycles. -/

namespace Sys2Proof.Safety

open Sys2Proof.Machine

/-- The controller's invariant: the shadow flag is 0 while `prev_mode` is not ON, and ACTIVE is entered only with `prev_mode` = ON
(43_control_fsm.md R216). -/
structure ControlLegal (s : State) : Prop where
  inactive_unless_on : s.ctl.prevMode ≠ .on → s.ctl.actuatorActive = false
  active_loop_on : s.ctl.loop = .active → s.ctl.prevMode = .on

/-- The channel's invariant: never both enables, a busy engine keeps TX_EN, reserved CTRL bits are 0 (42_tx_actuator.md R185, R186;
10_state.md R29). -/
structure ChannelsLegal (s : State) : Prop where
  exclusive : ¬ (s.txEn = true ∧ s.rxEn = true)
  busy_enabled : s.tx.busy = true → s.txEn = true
  reserved_zero : s.ctrl &&& ~~~ctrlMask = 0

/-- With no fault recorded, all the fault registers are 0 (60_exceptions.md R260, R262, R263). -/
def FaultLegal (s : State) : Prop := s.fault.code = .none → s.fault = FaultRec.clear

/-- The tick divider stays in its range (10_state.md R24). -/
def TimebaseLegal (s : State) : Prop := s.tickCnt < Config.tickDiv

/-- A latched reception lies in the ranges of its registers (10_state.md R43, R44, R45; 41_rx_decoder.md R151). -/
structure LatchLegal (s : State) : Prop where
  proto : s.rx.valid = true → 1 ≤ s.rx.proto.toNat ∧ s.rx.proto.toNat ≤ Config.nProto
  pulse : s.rx.valid = true → 1 ≤ s.rx.pulse.toNat
  bits : s.rx.valid = true → Config.rxMinBits ≤ s.rx.bits.toNat ∧ s.rx.bits.toNat ≤ Config.rxMaxBits
  code : s.rx.valid = true → s.rx.code ≠ 0 ∧ s.rx.code.toNat < 2 ^ s.rx.bits.toNat

/-- Every profile field that is set is in its legal range, and one that is unset is 0 (10_state.md R36 to R41;
40_pulse_codec.md R110). -/
structure ProfileLegal (s : State) : Prop where
  code : s.profValid.getLsbD 0 = false → s.prof.code = 0
  proto : if s.profValid.getLsbD 1 then 1 ≤ s.prof.proto.toNat ∧ s.prof.proto.toNat ≤ Config.nProto else s.prof.proto = 0
  pulse : if s.profValid.getLsbD 2 then 1 ≤ s.prof.pulse.toNat else s.prof.pulse = 0
  bits : if s.profValid.getLsbD 3 then 1 ≤ s.prof.bits.toNat ∧ s.prof.bits.toNat ≤ 32 else s.prof.bits = 0
  reps : if s.profValid.getLsbD 4 then 1 ≤ s.prof.reps.toNat else s.prof.reps = 0

/-- A profile every field of which is legal (40_pulse_codec.md R110). -/
structure ProfileInRange (p : Profile) : Prop where
  proto : 1 ≤ p.proto.toNat ∧ p.proto.toNat ≤ Config.nProto
  pulse : 1 ≤ p.pulse.toNat
  bits : 1 ≤ p.bits.toNat ∧ p.bits.toNat ≤ 32
  reps : 1 ≤ p.reps.toNat

/-- The transmit engine's invariant: the line is low while idle; while busy, the line holds the level of the current segment of the
snapshot's list, and TX_FRAMES counts the frames completed (10_state.md R54, R57; 42_tx_actuator.md R182). -/
structure TransmitLegal (s : State) : Prop where
  idle_low : s.tx.busy = false → s.rfTxOut = false
  snap_legal : s.tx.busy = true → ProfileInRange s.tx.snap
  seq_of_snap : s.tx.busy = true → s.tx.seq = s.tx.snap.segments
  pos_le : s.tx.busy = true → s.tx.pos ≤ s.tx.seq.length
  fresh : s.tx.busy = true → s.tx.pos = 0 → s.tx.left = 0 ∧ s.rfTxOut = false
  current : s.tx.busy = true → ∀ k, s.tx.pos = k + 1 →
    ∃ g, s.tx.seq[k]? = some g ∧ s.rfTxOut = g.level ∧ s.tx.left < g.ticks
  frames : s.tx.busy = true → s.tx.frames.toNat = (s.tx.pos - 1) / (2 * s.tx.snap.bits.toNat + 2)

/-- The decoder's invariant: held while RX_EN = 0, the buffer within its bound, and, unless it overflowed, even in length exactly
while the line is high, so that it is odd at every closing gap (41_rx_decoder.md R140, R142, R144). -/
structure DecoderLegal (s : State) : Prop where
  held : s.rxEn = false → s.dec = RxDecoder.initial
  bounded : s.dec.buf.length ≤ Config.rxBufMax
  no_ref : s.dec.haveRef = false → s.dec.buf = [] ∧ s.dec.ovf = false ∧ s.dec.gprev = 0
  ref_gap : s.dec.haveRef = true → s.dec.primed = true ∧ s.dec.seenEdge = true ∧ Config.rxGapMin ≤ s.dec.gprev.toNat
  parity : s.dec.haveRef = true → s.dec.ovf = false → (s.dec.buf.length % 2 = 0 ↔ s.dec.level = true)
  overflow : s.dec.ovf = true → s.dec.buf.length = Config.rxBufMax

/-- `n` ticks of the transmit engine alone (42_tx_actuator.md R182). -/
def txTicks : Nat → State → State
  | 0, s => s
  | n + 1, s => txTicks n (s.txStage true)

/-- The decoder fed one sample a tick, and the frames it decodes, in order (41_rx_decoder.md R142). -/
def feed : List Bool → RxDecoder → RxDecoder × List Reception
  | [], x => (x, [])
  | b :: rest, x =>
    let r := x.tick b
    let q := feed rest r.1
    (q.1, r.2.toList ++ q.2)

/-- A pair of intervals lies strictly within the tolerance, 80 % of the pulse length `t` rounded down, of a symbol of `high` and `low`
pulse units (41_rx_decoder.md R148, R149). -/
def PairWithin (t high low h l : Nat) : Prop :=
  absDiff h (t * high) < t * 80 / 100 ∧ absDiff l (t * low) < t * 80 / 100

/-- A buffer of `n` data bits after a gap `gp` reads as `code` under protocol `p`: the pulse length is in range, the code is not 0,
and every pair of intervals, the most significant bit first, is a zero symbol for a 0 bit, and for a 1 bit is no zero symbol but a
one symbol (41_rx_decoder.md R145, R148, R149, R151). -/
structure FrameReads (buf : List Nat) (gp n p code : Nat) : Prop where
  pulse : 1 ≤ gp / (timing p).syncLow ∧ gp / (timing p).syncLow ≤ 65535
  nonzero : code ≠ 0
  width : code < 2 ^ n
  pairs : ∀ i, i < n → ∃ h l, buf[2 * i]? = some h ∧ buf[2 * i + 1]? = some l ∧
    if code.testBit (n - 1 - i) then
      ¬ PairWithin (gp / (timing p).syncLow) (timing p).zeroHigh (timing p).zeroLow h l ∧
        PairWithin (gp / (timing p).syncLow) (timing p).oneHigh (timing p).oneLow h l
    else PairWithin (gp / (timing p).syncLow) (timing p).zeroHigh (timing p).zeroLow h l

/-- A run of CTL_CYCLE ON commands over samples, and how many of them emitted TOGGLE (43_control_fsm.md R211, R218). -/
def cycleRun : List Word → State → State × Nat
  | [], s => (s, 0)
  | v :: rest, s =>
    match exec (.ctlCycle .on) (s.setCtlValue v) with
    | .next t =>
      let q := cycleRun rest t
      (q.1, (if t.intent.getLsbD Intent.toggle.bit then 1 else 0) + q.2)
    | .fault _ => (s, 0)
    | .refused _ => (s, 0)

/-- The number of edges of BAD-ness over a list of samples, the last BAD-or-OK classification being `prev`; DANGER samples are
skipped (43_control_fsm.md R218). -/
def badEdges (t : Int) : List Int → Bool → Nat
  | [], _ => 0
  | v :: rest, prev =>
    if t < v then (if prev then 0 else 1) + badEdges t rest true
    else if 100 < v then badEdges t rest prev
    else (if prev then 1 else 0) + badEdges t rest false

/-- The INTENT value of a cycle, as the table of 95_test_vectors.md spells it: the class, the shadow flag before, and whether the
threshold notification is due (43_control_fsm.md R210, R213). -/
def intentTable (v t : Int) (active notify : Bool) : IntentMask :=
  (if t < v then (if active then 0x00120 else 0x00F20)
   else if 100 < v then 0x1E020
   else if active then 0x012E0 else 0x000E0)
  ||| (if notify then 0x20000 else 0)

/-- The state after a cycle that does not fault and starts no transmission (43_control_fsm.md R210), spelled out. -/
def cycleResult (m : Mode) (s : State) : State :=
  { s with
    ctl :=
      { loop := if m = .notOn then .outer else s.ctl.loop
        prevMode := s.ctl.prevMode
        actuatorActive :=
          if s.ctlThresh.toInt < s.ctlValue.toInt then true
          else if 100 < s.ctlValue.toInt then s.ctl.actuatorActive else false
        prevThresh := some s.ctlThresh
        lastClass :=
          if s.ctlThresh.toInt < s.ctlValue.toInt then .bad
          else if 100 < s.ctlValue.toInt then .danger else .ok }
    intent := intentTable s.ctlValue.toInt s.ctlThresh.toInt s.ctl.actuatorActive
      (decide (s.ctl.prevThresh ≠ some s.ctlThresh))
    ctlSeq := s.ctlSeq + 1 }

/-- A toggle is due: BAD while inactive, or OK while active (43_control_fsm.md R211). -/
def EdgeDue (s : State) : Prop :=
  (s.ctlThresh.toInt < s.ctlValue.toInt ∧ s.ctl.actuatorActive = false) ∨
  (s.ctlValue.toInt ≤ s.ctlThresh.toInt ∧ s.ctlValue.toInt ≤ 100 ∧ s.ctl.actuatorActive = true)

/-- The engine just started on a profile (42_tx_actuator.md R181). -/
def startedEngine (p : Profile) : TxEngine :=
  { busy := true, snap := p, seq := p.segments, pos := 0, left := 0, frames := 0 }

/-- The state with one fault recorded by a command word, an earlier OVERFLOW kept (60_exceptions.md R262). -/
def faulted (s : State) (code : FaultCode) (info addr : Word) : State :=
  { s with fault := { code := code, overflow := s.fault.overflow, info := info, addr := addr } }

end Sys2Proof.Safety
end

