-- ==== Sys2Proof/Certificates/Slice0/Obligations.lean ====
section
/-! DEFINITION. The statements for the provers, one definition each; OBLIGATIONS.json says which rule of the spec each formalises. -/

open Sys2Proof Sys2Proof.Machine Sys2Proof.Safety

/-! ### Encoding -/

/-- Decoding the word of an instruction gives the instruction back (30_encoding.md R94, R97). -/
def Obligations.DecodeOfEncode : Prop := ∀ i : Instr, i.wellFormed = true → decode (encode i) = some i

/-- Each command has exactly its word of 30_encoding.md R94, and every other word is illegal. -/
def Obligations.CommandWordsAreTheMap : Prop :=
  ∀ w : Word,
    (decode w = some .nop ↔ w = 0x00000000) ∧ (decode w = some .txSend ↔ w = 0x00000001) ∧
    (decode w = some .txAck ↔ w = 0x00000002) ∧ (decode w = some .profClear ↔ w = 0x00000003) ∧
    (decode w = some .rxAck ↔ w = 0x00000008) ∧ (decode w = some .rxCapture ↔ w = 0x00000009) ∧
    (decode w = some (.ctlMode .notOn) ↔ w = 0x00000010) ∧ (decode w = some (.ctlMode .on) ↔ w = 0x00000110) ∧
    (decode w = some (.ctlCycle .notOn) ↔ w = 0x00000011) ∧ (decode w = some (.ctlCycle .on) ↔ w = 0x00000111) ∧
    (decode w = some .faultClear ↔ w = 0x00000020) ∧
    (decode w = none ↔ w ∉ ([0x00000000, 0x00000001, 0x00000002, 0x00000003, 0x00000008, 0x00000009,
      0x00000010, 0x00000110, 0x00000011, 0x00000111, 0x00000020] : List Word))

/-- A word with a reserved bit set, an unassigned OP, or M = 1 on another command faults ILLEGAL_CMD, or only sets OVERFLOW while a
fault is recorded (30_encoding.md R93). -/
def Obligations.IllegalCommandFaults : Prop :=
  ∀ (w : Word) (s : State),
    (w.extractLsb' 9 23 ≠ 0 ∨
      w.extractLsb' 0 8 ∉ ([0x00, 0x01, 0x02, 0x03, 0x08, 0x09, 0x10, 0x11, 0x20] : List (BitVec 8)) ∨
      (w.getLsbD 8 = true ∧ w.extractLsb' 0 8 ≠ 0x10 ∧ w.extractLsb' 0 8 ≠ 0x11)) →
    (s.fault.code = .none → issue w s = .next (faulted s .illegalCmd w 0x8000000C)) ∧
    (s.fault.code ≠ .none → issue w s = .next { s with fault := { s.fault with overflow := true } })

/-- A few words of 95_test_vectors.md section 2.1 decode as listed there. -/
def Obligations.ListedWordsDecode : Prop :=
  decode 0x00000001 = some .txSend ∧ decode 0x00000010 = some (.ctlMode .notOn) ∧
  decode 0x00000111 = some (.ctlCycle .on) ∧ decode 0x00000020 = some .faultClear ∧
  decode 0x00000100 = none ∧ decode 0x00000004 = none ∧ decode 0x00000200 = none ∧ decode 0x80000011 = none

/-! ### Steps -/

/-- A clock out of reset runs its access on the state at the start of the clock, and then does the rest of the clock: the tick if it
carries one, `irq`, the synchroniser. An idle bus changes nothing, a read gives its datum, a write is `busWrite`; a write of a word to
CMD issues it, and the word of a command runs that command. -/
def Obligations.StepRunsCommand : Prop :=
  ∀ s : State, s.nextInput.rstN = true →
    (∀ (w : Word) (i : Instr) (t : State), s.nextInput.access = .write 0x0C w → decode w = some i → exec i s = .next t →
      step s = .next ((t.setReadData none).endClock Config.tickDiv s.nextInput.rxIn)) ∧
    (s.nextInput.access = .idle →
      step s = .next ((s.setReadData none).endClock Config.tickDiv s.nextInput.rxIn)) ∧
    (∀ off : Offset, s.nextInput.access = .read off →
      step s = .next (((s.busRead off).1.setReadData (some (s.busRead off).2)).endClock Config.tickDiv s.nextInput.rxIn)) ∧
    (∀ (off : Offset) (v : Word) (t : State), s.nextInput.access = .write off v → busWrite off v s = .next t →
      step s = .next ((t.setReadData none).endClock Config.tickDiv s.nextInput.rxIn)) ∧
    ∀ w : Word, busWrite 0x0C w s = issue w s

/-- Every clock completes: no access, command or tick stops the block (44_system.md R244, 41_rx_decoder.md R154). -/
def Obligations.EveryClockCompletes : Prop := ∀ s : State, ∃ t, step s = .next t

/-! ### The commands -/

/-- NOP changes nothing, whatever fault is recorded, and its clock is the clock of an idle bus. -/
def Obligations.NopChangesNothing : Prop :=
  ∀ s : State, exec .nop s = .next s ∧ step (s.withAccess (.write 0x0C 0x00000000)) = step (s.withAccess .idle)

/-- FAULT_CLEAR zeroes the three fault registers and touches nothing else; it is never blocked. -/
def Obligations.FaultClearResult : Prop :=
  ∀ s : State, ∃ t, exec .faultClear s = .next t ∧
    t = { s with fault := { code := .none, overflow := false, info := 0, addr := 0 } } ∧ t.faultPending = false

/-- TX_ACK clears TX_DONE and nothing else. -/
def Obligations.TxAckResult : Prop :=
  ∀ s : State, s.fault.code = .none → exec .txAck s = .next { s with txDone := false }

/-- PROF_CLEAR zeroes the profile and its set bits and nothing else; PROF_OK and RX_EQ_PROF are then 0. -/
def Obligations.ProfClearResult : Prop :=
  ∀ s : State, s.fault.code = .none → ∃ t, exec .profClear s = .next t ∧
    t = { s with prof := { code := 0, proto := 0, pulse := 0, bits := 0, reps := 0 }, profValid := 0 } ∧
    t.profOk = false ∧ t.rxEqProf = false

/-- RX_ACK clears RX_VALID and RX_OVERRUN; the RX_* registers keep their values. -/
def Obligations.RxAckResult : Prop :=
  ∀ s : State, s.fault.code = .none →
    exec .rxAck s = .next { s with rx := { s.rx with valid := false, overrun := false } }

/-- RX_CAPTURE forms the candidate profile with 24 bits and 10 repeats, or faults NO_RX when nothing is latched. -/
def Obligations.RxCaptureResult : Prop :=
  ∀ s : State, s.fault.code = .none →
    (s.rx.valid = true → exec .rxCapture s = .next { s with
      prof := { code := s.rx.code, proto := s.rx.proto, pulse := s.rx.pulse, bits := 24, reps := 10 }
      profValid := 0b11111 }) ∧
    (s.rx.valid = false → exec .rxCapture s = .next (faulted s .noRx 0x00000009 0x8000000C))

/-- TX_SEND of a valid profile on an enabled, idle channel starts a transmission of a copy of the profile. -/
def Obligations.TxSendStarts : Prop :=
  ∀ s : State, s.fault.code = .none → s.tx.busy = false → s.ctrl.getLsbD 0 = true → s.profValid = 0b11111 →
    (s.prof.bits = 32 ∨ s.prof.code.toNat < 2 ^ s.prof.bits.toNat) →
    exec .txSend s = .next { s with tx := startedEngine s.prof }

/-- A refused TX_SEND records TX_BUSY, TX_DISABLED or PROFILE_INVALID, tested in that order, and sends nothing. -/
def Obligations.TxSendRefused : Prop :=
  ∀ s : State, s.fault.code = .none →
    (s.tx.busy = true → exec .txSend s = .next (faulted s .txBusy 0x00000001 0x8000000C)) ∧
    (s.tx.busy = false → s.ctrl.getLsbD 0 = false →
      exec .txSend s = .next (faulted s .txDisabled 0x00000001 0x8000000C)) ∧
    (s.tx.busy = false → s.ctrl.getLsbD 0 = true → s.profOk = false →
      exec .txSend s = .next (faulted s .profileInvalid 0x00000001 0x8000000C))

/-- CTL_MODE in OUTER: the ON transition, the OFF transition, or no change. -/
def Obligations.CtlModeResult : Prop :=
  ∀ s : State, s.fault.code = .none → s.ctl.loop = .outer →
    exec (.ctlMode .on) s = .next
      (if s.ctl.prevMode = .on then { s with intent := 0, ctlSeq := s.ctlSeq + 1 }
       else { s with
         ctl := { s.ctl with loop := .active, prevMode := .on, prevThresh := none }
         intent := 0x0000B, ctlSeq := s.ctlSeq + 1 }) ∧
    exec (.ctlMode .notOn) s = .next
      (if s.ctl.prevMode = .notOn then { s with intent := 0, ctlSeq := s.ctlSeq + 1 }
       else { s with
         ctl := { s.ctl with actuatorActive := false, prevMode := .notOn }
         intent := 0x00015, ctlSeq := s.ctlSeq + 1 })

/-- CTL_MODE in ACTIVE faults SEQUENCE with no other effect. -/
def Obligations.CtlModeInActiveFaults : Prop :=
  ∀ s : State, s.fault.code = .none → s.ctl.loop = .active →
    exec (.ctlMode .on) s = .next (faulted s .sequence 0x00000110 0x8000000C) ∧
    exec (.ctlMode .notOn) s = .next (faulted s .sequence 0x00000010 0x8000000C)

/-- CTL_CYCLE in ACTIVE that starts no transmission: the class, the shadow flag, the threshold, the loop state, INTENT and CTL_SEQ as
the tables say, and nothing else. -/
def Obligations.CtlCycleResult : Prop :=
  ∀ (m : Mode) (s : State), s.fault.code = .none → s.ctl.loop = .active →
    (s.ctrl.getLsbD 2 = false ∨ ¬ EdgeDue s) → exec (.ctlCycle m) s = .next (cycleResult m s)

/-- CTL_CYCLE with AUTO_TX = 1 and a toggle due, whose transmission is not refused: the same, and a transmission starts as by
TX_SEND. -/
def Obligations.CtlCycleAutoToggle : Prop :=
  ∀ (m : Mode) (s : State), s.fault.code = .none → s.ctl.loop = .active → s.ctrl.getLsbD 2 = true → EdgeDue s →
    s.tx.busy = false → s.ctrl.getLsbD 0 = true → s.profOk = true →
    exec (.ctlCycle m) s = .next { cycleResult m s with tx := startedEngine s.prof }

/-- CTL_CYCLE faults SEQUENCE in OUTER, and a refused automatic toggle faults TX_BUSY, TX_DISABLED or PROFILE_INVALID, in that
order; nothing else changes. -/
def Obligations.CtlCycleRefused : Prop :=
  ∀ (m : Mode) (s : State), s.fault.code = .none →
    (s.ctl.loop = .outer → exec (.ctlCycle m) s = .next (faulted s .sequence (encode (.ctlCycle m)) 0x8000000C)) ∧
    (s.ctl.loop = .active → s.ctrl.getLsbD 2 = true → EdgeDue s →
      (s.tx.busy = true →
        exec (.ctlCycle m) s = .next (faulted s .txBusy (encode (.ctlCycle m)) 0x8000000C)) ∧
      (s.tx.busy = false → s.ctrl.getLsbD 0 = false →
        exec (.ctlCycle m) s = .next (faulted s .txDisabled (encode (.ctlCycle m)) 0x8000000C)) ∧
      (s.tx.busy = false → s.ctrl.getLsbD 0 = true → s.profOk = false →
        exec (.ctlCycle m) s = .next (faulted s .profileInvalid (encode (.ctlCycle m)) 0x8000000C)))

/-! ### Faults -/

/-- While a fault is recorded, every command but NOP and FAULT_CLEAR sets OVERFLOW and has no other effect. -/
def Obligations.CommandsBlockedByFault : Prop :=
  ∀ (i : Instr) (s : State), s.fault.code ≠ .none → i ≠ .nop → i ≠ .faultClear →
    exec i s = .next { s with fault := { s.fault with overflow := true } }

/-- A command that records a fault changes nothing but the fault record. -/
def Obligations.FaultsArePrecise : Prop :=
  ∀ (i : Instr) (s t : State), exec i s = .next t → t.fault ≠ s.fault → t = { s with fault := t.fault }

/-- The first fault is kept: with none recorded, code, info and address are stored; with one recorded, only OVERFLOW is set. -/
def Obligations.FirstFaultKept : Prop :=
  ∀ (s : State) (code : FaultCode) (info addr : Word),
    (s.fault.code = .none → s.raise code info addr = faulted s code info addr) ∧
    (s.fault.code ≠ .none → s.raise code info addr = { s with fault := { s.fault with overflow := true } })

/-! ### Register accesses -/

/-- A read of a misaligned or unmapped offset gives 0 and records BUS_ERROR; a read of a register gives its word and changes
nothing. Each register but STATUS reads as its field of the state, with 0 in its reserved bits; FAULT reads the number of the code in
bits 3:0 and OVERFLOW in bit 8; CMD reads 0. -/
def Obligations.ReadsOfTheRegisterSpace : Prop :=
  ∀ s : State,
    (∀ off : Offset,
      ((off.toNat % 4 ≠ 0 ∨ 0x64 ≤ off.toNat) →
        s.busRead off = (s.raise .busError 0x00000000 (off.setWidth 32), 0)) ∧
      (∀ r : RegName, r.offset = off → s.busRead off = (s, s.readReg r)) ∧
      (off.toNat % 4 = 0 → off.toNat < 0x64 → ∃ r : RegName, r.offset = off)) ∧
    (s.busRead 0x00).2 = 0x41514D43 ∧ (s.busRead 0x04).2 = s.ctrl ∧ s.busRead 0x0C = (s, 0) ∧
    ((s.busRead 0x10).2.extractLsb' 0 4 =
      (match s.fault.code with
      | .none => 0#4 | .illegalCmd => 1#4 | .busError => 2#4 | .sequence => 3#4 | .txBusy => 4#4
      | .txDisabled => 5#4 | .profileInvalid => 6#4 | .noRx => 7#4 | .channelConflict => 8#4 | .fieldRange => 9#4) ∧
      (s.busRead 0x10).2.extractLsb' 4 4 = 0 ∧ (s.busRead 0x10).2.getLsbD 8 = s.fault.overflow ∧
      (s.busRead 0x10).2.extractLsb' 9 23 = 0) ∧
    (s.busRead 0x14).2 = s.fault.info ∧ (s.busRead 0x18).2 = s.fault.addr ∧ (s.busRead 0x1C).2 = s.timer ∧
    (s.busRead 0x20).2 = s.prof.code ∧ (s.busRead 0x24).2.toNat = s.prof.proto.toNat ∧
    (s.busRead 0x28).2.toNat = s.prof.pulse.toNat ∧ (s.busRead 0x2C).2.toNat = s.prof.bits.toNat ∧
    (s.busRead 0x30).2.toNat = s.prof.reps.toNat ∧ (s.busRead 0x34).2.toNat = s.profValid.toNat ∧
    (s.busRead 0x38).2 = s.rx.code ∧ (s.busRead 0x3C).2.toNat = s.rx.proto.toNat ∧
    (s.busRead 0x40).2.toNat = s.rx.pulse.toNat ∧ (s.busRead 0x44).2.toNat = s.rx.bits.toNat ∧
    (s.busRead 0x48).2 = s.rx.ts ∧ (s.busRead 0x4C).2 = s.ctlValue ∧ (s.busRead 0x50).2 = s.ctlThresh ∧
    (s.busRead 0x54).2 = (match s.ctl.prevThresh with | none => 0 | some x => x) ∧
    (s.busRead 0x58).2.toNat = s.intent.toNat ∧ (s.busRead 0x5C).2 = s.ctlSeq ∧
    (s.busRead 0x60).2.toNat = s.tx.frames.toNat

/-- The word that STATUS reads as has each flag in its place and 0 in its reserved bits. -/
def Obligations.StatusFields : Prop :=
  ∀ (s : State) (w : Word), w = (s.busRead 0x08).2 →
    w.getLsbD 0 = s.tx.busy ∧ w.getLsbD 1 = s.txDone ∧ w.getLsbD 2 = s.rx.valid ∧ w.getLsbD 3 = s.rx.overrun ∧
    (w.getLsbD 4 = true ↔ s.fault.code ≠ .none) ∧
    (w.getLsbD 5 = true ↔ s.profValid = 0b11111 ∧
      (s.prof.bits = 32 ∨ s.prof.code.toNat < 2 ^ s.prof.bits.toNat)) ∧
    (w.getLsbD 6 = true ↔ s.rx.valid = true ∧ s.profValid.extractLsb' 0 3 = 0b111 ∧
      s.rx.code = s.prof.code ∧ s.rx.proto = s.prof.proto ∧ s.rx.pulse = s.prof.pulse) ∧
    w.getLsbD 7 = false ∧ (w.getLsbD 8 = true ↔ s.ctl.loop = .active) ∧ w.getLsbD 9 = s.ctl.actuatorActive ∧
    w.extractLsb' 10 2 = (match s.ctl.prevMode with | .empty => 0b00#2 | .notOn => 0b01#2 | .on => 0b10#2) ∧
    w.getLsbD 12 = s.ctl.prevThresh.isSome ∧
    w.extractLsb' 13 2 =
      (match s.ctl.lastClass with | .none => 0b00#2 | .ok => 0b01#2 | .bad => 0b10#2 | .danger => 0b11#2) ∧
    w.getLsbD 15 = false ∧ w.getLsbD 16 = s.irq ∧ w.extractLsb' 17 15 = 0

/-- A write to a misaligned or unmapped offset or to a read-only register changes nothing and records BUS_ERROR. -/
def Obligations.RefusedWrites : Prop :=
  ∀ (s : State) (off : Offset) (v : Word),
    (off.toNat % 4 ≠ 0 ∨ 0x64 ≤ off.toNat ∨
      off ∈ ([0x00, 0x08, 0x10, 0x14, 0x18, 0x1C, 0x34, 0x38, 0x3C, 0x40, 0x44, 0x48, 0x54, 0x58, 0x5C, 0x60] :
        List Offset)) →
    busWrite off v s = .next (s.raise .busError v (0x80000000 ||| off.setWidth 32))

/-- A CTRL write with both enables faults CHANNEL_CONFLICT; one with TX_EN = 0 while busy faults TX_BUSY; any other stores its six
fields and nothing else. -/
def Obligations.CtrlWrites : Prop :=
  ∀ (s : State) (v : Word),
    (v.getLsbD 0 = true → v.getLsbD 1 = true →
      busWrite 0x04 v s = .next (s.raise .channelConflict v 0x80000004)) ∧
    (v.getLsbD 0 = false → s.tx.busy = true → busWrite 0x04 v s = .next (s.raise .txBusy v 0x80000004)) ∧
    (¬ (v.getLsbD 0 = true ∧ v.getLsbD 1 = true) → ¬ (v.getLsbD 0 = false ∧ s.tx.busy = true) →
      busWrite 0x04 v s = .next { s with ctrl := v &&& 0x00000707 })

/-- The writes of the profile and operand registers: a legal datum is stored, its PROF_VALID bit set; an illegal one faults
FIELD_RANGE and changes nothing. A recorded fault blocks none of them. -/
def Obligations.RegisterWrites : Prop :=
  ∀ (s : State) (v : Word),
    busWrite 0x20 v s = .next { s with prof := { s.prof with code := v }, profValid := s.profValid ||| 0b00001 } ∧
    (1 ≤ v.toNat → v.toNat ≤ 6 → busWrite 0x24 v s = .next { s with
      prof := { s.prof with proto := v.setWidth 8 }, profValid := s.profValid ||| 0b00010 }) ∧
    (¬ (1 ≤ v.toNat ∧ v.toNat ≤ 6) → busWrite 0x24 v s = .next (s.raise .fieldRange v 0x80000024)) ∧
    (1 ≤ v.toNat → v.toNat ≤ 65535 → busWrite 0x28 v s = .next { s with
      prof := { s.prof with pulse := v.setWidth 16 }, profValid := s.profValid ||| 0b00100 }) ∧
    (¬ (1 ≤ v.toNat ∧ v.toNat ≤ 65535) → busWrite 0x28 v s = .next (s.raise .fieldRange v 0x80000028)) ∧
    (1 ≤ v.toNat → v.toNat ≤ 32 → busWrite 0x2C v s = .next { s with
      prof := { s.prof with bits := v.setWidth 6 }, profValid := s.profValid ||| 0b01000 }) ∧
    (¬ (1 ≤ v.toNat ∧ v.toNat ≤ 32) → busWrite 0x2C v s = .next (s.raise .fieldRange v 0x8000002C)) ∧
    (1 ≤ v.toNat → v.toNat ≤ 255 → busWrite 0x30 v s = .next { s with
      prof := { s.prof with reps := v.setWidth 8 }, profValid := s.profValid ||| 0b10000 }) ∧
    (¬ (1 ≤ v.toNat ∧ v.toNat ≤ 255) → busWrite 0x30 v s = .next (s.raise .fieldRange v 0x80000030)) ∧
    busWrite 0x4C v s = .next { s with ctlValue := v } ∧ busWrite 0x50 v s = .next { s with ctlThresh := v }

/-- The clock of a read of a register is the clock of an idle bus, but for the datum on `bus_rdata`. -/
def Obligations.ReadsHaveNoSideEffect : Prop :=
  ∀ (s : State) (r : RegName), ∃ t, step (s.withAccess .idle) = .next t ∧
    step (s.withAccess (.read r.offset)) = .next { t with readData := some (s.readReg r) }

/-! ### Time, interrupt and reset -/

/-- TIMER counts exactly the clocks that carry a tick, and the divider counts clocks modulo TICK_DIV. A clock that carries a tick runs
each engine once, on the state `u` that its access leaves: the transmit engine, then, while RX_EN = 1, the decoder on one sample of
the synchronised level, a decoded frame being latched with the TIMER of that tick. That the sample is the second synchroniser stage as
at the start of the clock is the model's reading (log 8). -/
def Obligations.TimerCountsTicks : Prop :=
  ∀ s t : State, s.nextInput.rstN = true → step s = .next t →
    (s.tickCnt ≠ Config.tickDiv - 1 → t.tickCnt = s.tickCnt + 1 ∧ t.timer = s.timer) ∧
    (s.tickCnt = Config.tickDiv - 1 → t.tickCnt = 0 ∧ t.timer = s.timer + 1 ∧
      ∃ u, accessStage s.nextInput.access s = .next u ∧ (s.nextInput.access = .idle → u = s) ∧
        t.tx = (u.txStage true).tx ∧ t.txDone = (u.txStage true).txDone ∧ t.rfTxOut = (u.txStage true).rfTxOut ∧
        (u.rxEn = true →
          t.dec = (s.dec.tick s.sync.stage2).1 ∧
          t.rx = (match (s.dec.tick s.sync.stage2).2 with
            | none => u.rx
            | some r => u.rx.latch r (s.timer + 1))) ∧
        (u.rxEn = false → t.rx = u.rx))

/-- In a clock without a tick `rf_tx_out` and TIMER stay, and with an idle bus the engines and the latch stay too. -/
def Obligations.EnginesWaitForTicks : Prop :=
  ∀ s t : State, s.nextInput.rstN = true → s.tickCnt ≠ Config.tickDiv - 1 → step s = .next t →
    t.rfTxOut = s.rfTxOut ∧ t.timer = s.timer ∧
    (s.nextInput.access = .idle →
      t.tx = s.tx ∧ t.txDone = s.txDone ∧ t.rx = s.rx ∧ (s.rxEn = true → t.dec = s.dec))

/-- `irq` at the end of a clock is the OR of the enabled pending bits at the end of that clock; it is 0 after a reset clock and at
reset; STATUS.IRQ reads the register. -/
def Obligations.IrqFollowsFlags : Prop :=
  (∀ s t : State, step s = .next t →
    (s.nextInput.rstN = true →
      (t.irq = true ↔ (t.ctrl.getLsbD 8 = true ∧ t.txDone = true) ∨ (t.ctrl.getLsbD 9 = true ∧ t.rx.valid = true) ∨
        (t.ctrl.getLsbD 10 = true ∧ t.fault.code ≠ .none))) ∧
    (s.nextInput.rstN = false → t.irq = false)) ∧
  State.reset.irq = false ∧ ∀ s : State, (s.busRead 0x08).2.getLsbD 16 = s.irq

/-- The values after reset, read as the host reads them, and the internal state that the spec gives a value. -/
def Obligations.ResetValues : Prop :=
  (∀ r : RegName, State.reset.readReg r = if r = .id then 0x41514D43 else 0) ∧
  State.reset.ctl = { loop := .outer, prevMode := .empty, actuatorActive := false, prevThresh := none, lastClass := .none } ∧
  State.reset.tx.busy = false ∧ State.reset.tx.pos = 0 ∧ State.reset.tx.left = 0 ∧
  State.reset.dec =
    { primed := false, level := false, seenEdge := false, dur := 0, haveRef := false, gprev := 0, buf := [], ovf := false } ∧
  State.reset.tickCnt = 0 ∧ State.reset.rfTxOut = false ∧ State.reset.irq = false

/-- A clock with `rst_n` = 0 gives every piece of state its reset value, ignores the access, and answers a read with 0; what the
spec leaves unspecified is left open here. That the schedule's entry is used up and the model's own counter goes on is the model's
choice (log 2, log 3). -/
def Obligations.ResetClockResets : Prop :=
  ∀ s : State, s.nextInput.rstN = false → ∃ snap seq sync, step s = .next { State.reset with
    tx := { State.reset.tx with snap := snap, seq := seq }
    sync := sync
    inputs := s.inputs.tail
    clock := s.clock + 1
    readData := match s.nextInput.access with | .read _ => some 0 | .idle => none | .write _ _ => none }

/-- A level of `rf_rx_in` reaches the decoder's side of the synchroniser two clocks later. -/
def Obligations.SynchroniserDelaysTwoClocks : Prop :=
  ∀ s t u : State, s.nextInput.rstN = true → t.nextInput.rstN = true → step s = .next t → step t = .next u →
    u.sync.stage2 = s.nextInput.rxIn

/-! ### Invariants -/

/-- The state after reset is legal in every sense of the invariants below. -/
def Obligations.ResetIsLegal : Prop :=
  ControlLegal State.reset ∧ ChannelsLegal State.reset ∧ FaultLegal State.reset ∧ TimebaseLegal State.reset ∧
  LatchLegal State.reset ∧ ProfileLegal State.reset ∧ TransmitLegal State.reset ∧ DecoderLegal State.reset

/-- The shadow flag is 0 unless `prev_mode` is ON, and ACTIVE implies `prev_mode` = ON: kept by every step. -/
def Obligations.StepKeepsControlLegal : Prop := ∀ s t : State, ControlLegal s → step s = .next t → ControlLegal t

/-- TX_EN and RX_EN are never 1 together, a busy engine keeps TX_EN, reserved CTRL bits stay 0: kept by every step. -/
def Obligations.StepKeepsChannelsLegal : Prop := ∀ s t : State, ChannelsLegal s → step s = .next t → ChannelsLegal t

/-- With no fault recorded the fault registers are all 0: kept by every step. -/
def Obligations.StepKeepsFaultLegal : Prop := ∀ s t : State, FaultLegal s → step s = .next t → FaultLegal t

/-- The tick divider stays below TICK_DIV: kept by every step. -/
def Obligations.StepKeepsTimebaseLegal : Prop := ∀ s t : State, TimebaseLegal s → step s = .next t → TimebaseLegal t

/-- What the latch holds lies in the ranges of its registers: kept by every step, whatever the decoder has buffered. -/
def Obligations.StepKeepsLatchLegal : Prop := ∀ s t : State, LatchLegal s → step s = .next t → LatchLegal t

/-- Every set profile field is in its legal range and every unset one is 0: kept by every step. -/
def Obligations.StepKeepsProfileLegal : Prop :=
  ∀ s t : State, ProfileLegal s → LatchLegal s → step s = .next t → ProfileLegal t

/-- The line is low while the engine is idle; while it is busy the line shows the current segment of the snapshot, and TX_FRAMES
counts its frames: kept by every step. -/
def Obligations.StepKeepsTransmitLegal : Prop :=
  ∀ s t : State, TransmitLegal s → ProfileLegal s → LatchLegal s → step s = .next t → TransmitLegal t

/-- The decoder's invariant (held while disabled, bounded buffer, parity with the line level): kept by every step. -/
def Obligations.StepKeepsDecoderLegal : Prop := ∀ s t : State, DecoderLegal s → step s = .next t → DecoderLegal t

/-! ### The transmit engine -/

/-- A transmission of a legal profile ends at tick `repeat_count * F + 1` after its start, and not before. -/
def Obligations.TransmissionEndsOnTime : Prop :=
  ∀ (s u : State), ProfileInRange s.prof →
    u = txTicks (s.prof.reps.toNat * s.prof.frameTicks + 1) s.txStart →
    u.tx.busy = false ∧ u.txDone = true ∧ u.tx.frames = s.prof.reps ∧ u.rfTxOut = false ∧
    (txTicks (s.prof.reps.toNat * s.prof.frameTicks) s.txStart).tx.busy = true

/-- At tick `k + 1` after its start, a transmission shows level `k` of the waveform of its segment list. -/
def Obligations.LineFollowsSegments : Prop :=
  ∀ (s : State) (k : Nat) (b : Bool), ProfileInRange s.prof → (waveform s.prof.segments)[k]? = some b →
    (txTicks (k + 1) s.txStart).rfTxOut = b ∧ (txTicks (k + 1) s.txStart).tx.busy = true

/-- The segment list of a legal profile: `repeat_count * (2 * bit_length + 2)` segments, alternating from high, none empty. -/
def Obligations.SegmentListShape : Prop :=
  ∀ p : Profile, ProfileInRange p →
    p.segments.length = p.reps.toNat * (2 * p.bits.toNat + 2) ∧
    ∀ k g, p.segments[k]? = some g → 1 ≤ g.ticks ∧ (g.level = true ↔ k % 2 = 0)

/-- A transmission lasts `repeat_count * F` ticks. The six rows of PROTO_TABLE (sync, zero and one symbol, high then low), and with
them `F` under each protocol; under protocol 6 it depends on the number of 1 bits. -/
def Obligations.TransmissionLength : Prop :=
  (∀ p : Profile, totalTicks p.segments = p.reps.toNat * p.frameTicks ∧
    (p.proto = 1 → p.frameTicks = p.pulse.toNat * (32 + 4 * p.bits.toNat)) ∧
    (p.proto = 2 → p.frameTicks = p.pulse.toNat * (11 + 3 * p.bits.toNat)) ∧
    (p.proto = 3 → p.frameTicks = p.pulse.toNat * (101 + 15 * p.bits.toNat)) ∧
    (p.proto = 4 → p.frameTicks = p.pulse.toNat * (7 + 4 * p.bits.toNat)) ∧
    (p.proto = 5 → p.frameTicks = p.pulse.toNat * (20 + 3 * p.bits.toNat)) ∧
    (p.proto = 6 → p.frameTicks = p.pulse.toNat * (11 +
      6 * (List.range p.bits.toNat).countP (fun k => !p.code.getLsbD k) +
      2 * (List.range p.bits.toNat).countP (fun k => p.code.getLsbD k)))) ∧
  timing 1 = { syncHigh := 1, syncLow := 31, zeroHigh := 1, zeroLow := 3, oneHigh := 3, oneLow := 1 } ∧
  timing 2 = { syncHigh := 1, syncLow := 10, zeroHigh := 1, zeroLow := 2, oneHigh := 2, oneLow := 1 } ∧
  timing 3 = { syncHigh := 30, syncLow := 71, zeroHigh := 4, zeroLow := 11, oneHigh := 9, oneLow := 6 } ∧
  timing 4 = { syncHigh := 1, syncLow := 6, zeroHigh := 1, zeroLow := 3, oneHigh := 3, oneLow := 1 } ∧
  timing 5 = { syncHigh := 6, syncLow := 14, zeroHigh := 1, zeroLow := 2, oneHigh := 2, oneLow := 1 } ∧
  timing 6 = { syncHigh := 1, syncLow := 10, zeroHigh := 1, zeroLow := 5, oneHigh := 1, oneLow := 1 }

/-- No step but a reset clock changes the snapshot or the segment list of a transmission in progress. -/
def Obligations.SnapshotKeptWhileBusy : Prop :=
  ∀ s t : State, s.nextInput.rstN = true → s.tx.busy = true → step s = .next t →
    t.tx.snap = s.tx.snap ∧ t.tx.seq = s.tx.seq

/-- No access and no command ends a transmission before the end of its list; only a reset clock does. -/
def Obligations.TransmissionNotCut : Prop :=
  ∀ s t : State, s.nextInput.rstN = true → s.tx.busy = true →
    (s.tx.left ≠ 0 ∨ s.tx.pos < s.tx.seq.length) → step s = .next t → t.tx.busy = true

/-! ### The receive decoder -/

/-- The intervals of a protocol-1 frame between two gaps that match decode to its code, whatever the sync high is. -/
def Obligations.FrameDecodes : Prop :=
  ∀ (c : Word) (t n syncHigh gn : Nat), 162 ≤ t → t ≤ 65535 → 3 ≤ n → n ≤ 32 → c ≠ 0 → c.toNat < 2 ^ n →
    absDiff gn (31 * t) < 200 →
    rxDecode ((dataSegments (timing 1) t c n).map Segment.ticks ++ [syncHigh]) (31 * t) gn =
      some { code := c.toNat, proto := 1, pulse := t, bits := n }

/-- A protocol-1 burst of `r` frames fed to a decoder enabled on an idle line gives `r - 2` receptions of the profile, and one more
at the next rising edge: frame `k` is latched at the first rising edge after it. The pulse length is at most 1666, so that the low
of a 0 bit, `3 * T`, is shorter than a gap; 40_pulse_codec.md R123 states no such bound (log 16). -/
def Obligations.BurstDecodes : Prop :=
  ∀ (p : Profile) (idle : Nat), p.proto = 1 → 162 ≤ p.pulse.toNat → p.pulse.toNat ≤ 1666 →
    p.code ≠ 0 → p.code.toNat < 2 ^ p.bits.toNat →
    3 ≤ p.bits.toNat → p.bits.toNat ≤ 32 → 2 ≤ p.reps.toNat → 1 ≤ idle →
    (feed (List.replicate idle false ++ waveform p.segments) RxDecoder.initial).2 =
      List.replicate (p.reps.toNat - 2)
        { code := p.code.toNat, proto := 1, pulse := p.pulse.toNat, bits := p.bits.toNat } ∧
    (feed (List.replicate idle false ++ waveform p.segments ++ [true]) RxDecoder.initial).2 =
      List.replicate (p.reps.toNat - 1)
        { code := p.code.toNat, proto := 1, pulse := p.pulse.toNat, bits := p.bits.toNat }

/-- The bound of `BurstDecodes` is needed: a protocol-1 burst of the code `0b101` whose 0 bit has a low of 5000 ticks or more is
never decoded, however many frames it has. That the decoder's own rules, 41_rx_decoder.md R142 and R143, win over
40_pulse_codec.md R123 here is the model's reading (log 16). -/
def Obligations.LongPulseBurstNeverDecodes : Prop :=
  ∀ (p : Profile) (idle : Nat), p.proto = 1 → p.code = 0b101 → p.bits = 3 → 5000 ≤ 3 * p.pulse.toNat → 1 ≤ idle →
    (feed (List.replicate idle false ++ waveform p.segments ++ [true]) RxDecoder.initial).2 = []

/-- A frame decodes as a reception exactly when its gaps match, its buffer holds 3 to 32 bits and one sync high, it reads as that
code under that protocol of the table (every pair of intervals strictly within the tolerance of its bit's symbol, the zero symbol
tested first), the pulse length is the gap over the protocol's sync low, and it reads as no code under a lower-numbered protocol. -/
def Obligations.DecodedFramesAreSound : Prop :=
  ∀ (buf : List Nat) (gp gn : Nat) (r : Reception), rxDecode buf gp gn = some r ↔
    absDiff gn gp < 200 ∧ buf.length = 2 * r.bits + 1 ∧ 3 ≤ r.bits ∧ r.bits ≤ 32 ∧
    1 ≤ r.proto ∧ r.proto ≤ 6 ∧ r.pulse = gp / (timing r.proto).syncLow ∧
    FrameReads buf gp r.bits r.proto r.code ∧
    ∀ q, 1 ≤ q → q < r.proto → ∀ c, ¬ FrameReads buf gp r.bits q c

/-- A frame decoded in a tick is latched in that tick with the TIMER of that tick, which is already incremented; an unacknowledged one
is overwritten with RX_OVERRUN set, and an RX_ACK of the same clock comes first. That the decoder's sample in a step is the second
synchroniser stage as at the start of the clock is the model's reading (log 8). -/
def Obligations.DecodedFrameIsLatched : Prop :=
  ∀ (s : State) (r : Reception), (s.dec.tick s.sync.stage2).2 = some r →
    (s.rxEn = true → s.rxStage true = { s with
      dec := (s.dec.tick s.sync.stage2).1
      rx :=
        { valid := true
          overrun := if s.rx.valid then true else s.rx.overrun
          code := BitVec.ofNat 32 r.code
          proto := BitVec.ofNat 8 r.proto
          pulse := BitVec.ofNat 16 r.pulse
          bits := BitVec.ofNat 6 r.bits
          ts := s.timer } }) ∧
    ∀ t : State, s.nextInput.rstN = true → s.tickCnt = Config.tickDiv - 1 → step s = .next t → t.rxEn = true →
      t.dec = (s.dec.tick s.sync.stage2).1 ∧
      t.rx =
        { valid := true
          overrun :=
            if s.nextInput.access = .write 0x0C 0x00000008 ∧ s.fault.code = .none then false
            else if s.rx.valid then true else s.rx.overrun
          code := BitVec.ofNat 32 r.code
          proto := BitVec.ofNat 8 r.proto
          pulse := BitVec.ofNat 16 r.pulse
          bits := BitVec.ofNat 6 r.bits
          ts := s.timer + 1 }

/-- While RX_VALID = 1 and no RX_ACK is issued, a clock that changes the latch leaves RX_VALID and RX_OVERRUN set. -/
def Obligations.OverrunShowsOverwrite : Prop :=
  ∀ s t : State, s.nextInput.rstN = true → s.rx.valid = true →
    (∀ w, s.nextInput.access = .write 0x0C w → decode w ≠ some .rxAck) → step s = .next t →
    t.rx = s.rx ∨ (t.rx.valid = true ∧ t.rx.overrun = true)

/-- After every step with RX_EN = 0 the decoder is in its initial state, and with receive disabled throughout and an idle bus the
latch keeps its value. -/
def Obligations.DisabledDecoderIsHeld : Prop :=
  ∀ s t : State, step s = .next t → t.rxEn = false →
    t.dec =
      { primed := false, level := false, seenEdge := false, dur := 0, haveRef := false, gprev := 0, buf := [], ovf := false } ∧
    (s.nextInput.rstN = true → s.rxEn = false → s.nextInput.access = .idle → t.rx = s.rx)

/-! ### The controller -/

/-- BAD is above the threshold, DANGER is above 100 and not above the threshold, OK is neither; with a threshold of at most 100
DANGER is unreachable. -/
def Obligations.ClassificationTable : Prop :=
  ∀ v t : Int,
    (classify v t = .bad ↔ t < v) ∧ (classify v t = .danger ↔ 100 < v ∧ v ≤ t) ∧ (classify v t = .ok ↔ v ≤ t ∧ v ≤ 100) ∧
    (t ≤ 100 → classify v t ≠ .danger)

/-- A completed CTL_CYCLE emits TOGGLE exactly when it changes the shadow flag. -/
def Obligations.ToggleOnlyOnEdges : Prop :=
  ∀ (m : Mode) (s t : State), s.fault.code = .none → s.ctl.loop = .active → exec (.ctlCycle m) s = .next t →
    t.fault.code = .none → (t.intent.getLsbD 9 = true ↔ t.ctl.actuatorActive ≠ s.ctl.actuatorActive)

/-- Over a run of cycles with one threshold, the TOGGLE count is the number of changes of BAD-ness, DANGER samples skipped. -/
def Obligations.ToggleCountOfARun : Prop :=
  ∀ (l : List Word) (s : State), s.fault.code = .none → s.ctl.loop = .active → s.ctrl.getLsbD 2 = false →
    (cycleRun l s).2 = badEdges s.ctlThresh.toInt (l.map BitVec.toInt) s.ctl.actuatorActive

/-- After CTL_CYCLE OFF, a CTL_MODE ON is no transition: the block stays in OUTER, and a CTL_CYCLE then faults SEQUENCE. -/
def Obligations.ReentryNeedsOff : Prop :=
  ∀ (s : State) (m : Mode), ControlLegal s → s.fault.code = .none → s.ctl.loop = .active → s.ctrl.getLsbD 2 = false →
    ∃ t u, exec (.ctlCycle .notOn) s = .next t ∧ t.ctl.loop = .outer ∧ t.ctl.prevMode = .on ∧
      exec (.ctlMode .on) t = .next u ∧ u.ctl = t.ctl ∧ u.intent = 0 ∧
      exec (.ctlCycle m) u = .next (faulted u .sequence (encode (.ctlCycle m)) 0x8000000C)
end

