-- ==== Sys2Proof/Laws/State.lean ====
section
/-! SUPPORT. One lemma per field per update of State, each true by rfl, so that no later proof unfolds an update. -/

namespace Sys2Proof.Machine

variable (s : State)

@[simp] theorem State.setCtrl_ctrl (x : Word) : (s.setCtrl x).ctrl = x := rfl
@[simp] theorem State.setCtrl_fault (x : Word) : (s.setCtrl x).fault = s.fault := rfl
@[simp] theorem State.setCtrl_timer (x : Word) : (s.setCtrl x).timer = s.timer := rfl
@[simp] theorem State.setCtrl_prof (x : Word) : (s.setCtrl x).prof = s.prof := rfl
@[simp] theorem State.setCtrl_profValid (x : Word) : (s.setCtrl x).profValid = s.profValid := rfl
@[simp] theorem State.setCtrl_rx (x : Word) : (s.setCtrl x).rx = s.rx := rfl
@[simp] theorem State.setCtrl_ctlValue (x : Word) : (s.setCtrl x).ctlValue = s.ctlValue := rfl
@[simp] theorem State.setCtrl_ctlThresh (x : Word) : (s.setCtrl x).ctlThresh = s.ctlThresh := rfl
@[simp] theorem State.setCtrl_ctl (x : Word) : (s.setCtrl x).ctl = s.ctl := rfl
@[simp] theorem State.setCtrl_intent (x : Word) : (s.setCtrl x).intent = s.intent := rfl
@[simp] theorem State.setCtrl_ctlSeq (x : Word) : (s.setCtrl x).ctlSeq = s.ctlSeq := rfl
@[simp] theorem State.setCtrl_txDone (x : Word) : (s.setCtrl x).txDone = s.txDone := rfl
@[simp] theorem State.setCtrl_tx (x : Word) : (s.setCtrl x).tx = s.tx := rfl
@[simp] theorem State.setCtrl_dec (x : Word) : (s.setCtrl x).dec = s.dec := rfl
@[simp] theorem State.setCtrl_sync (x : Word) : (s.setCtrl x).sync = s.sync := rfl
@[simp] theorem State.setCtrl_tickCnt (x : Word) : (s.setCtrl x).tickCnt = s.tickCnt := rfl
@[simp] theorem State.setCtrl_rfTxOut (x : Word) : (s.setCtrl x).rfTxOut = s.rfTxOut := rfl
@[simp] theorem State.setCtrl_irq (x : Word) : (s.setCtrl x).irq = s.irq := rfl
@[simp] theorem State.setCtrl_readData (x : Word) : (s.setCtrl x).readData = s.readData := rfl
@[simp] theorem State.setCtrl_inputs (x : Word) : (s.setCtrl x).inputs = s.inputs := rfl
@[simp] theorem State.setCtrl_clock (x : Word) : (s.setCtrl x).clock = s.clock := rfl

@[simp] theorem State.setFault_ctrl (x : FaultRec) : (s.setFault x).ctrl = s.ctrl := rfl
@[simp] theorem State.setFault_fault (x : FaultRec) : (s.setFault x).fault = x := rfl
@[simp] theorem State.setFault_timer (x : FaultRec) : (s.setFault x).timer = s.timer := rfl
@[simp] theorem State.setFault_prof (x : FaultRec) : (s.setFault x).prof = s.prof := rfl
@[simp] theorem State.setFault_profValid (x : FaultRec) : (s.setFault x).profValid = s.profValid := rfl
@[simp] theorem State.setFault_rx (x : FaultRec) : (s.setFault x).rx = s.rx := rfl
@[simp] theorem State.setFault_ctlValue (x : FaultRec) : (s.setFault x).ctlValue = s.ctlValue := rfl
@[simp] theorem State.setFault_ctlThresh (x : FaultRec) : (s.setFault x).ctlThresh = s.ctlThresh := rfl
@[simp] theorem State.setFault_ctl (x : FaultRec) : (s.setFault x).ctl = s.ctl := rfl
@[simp] theorem State.setFault_intent (x : FaultRec) : (s.setFault x).intent = s.intent := rfl
@[simp] theorem State.setFault_ctlSeq (x : FaultRec) : (s.setFault x).ctlSeq = s.ctlSeq := rfl
@[simp] theorem State.setFault_txDone (x : FaultRec) : (s.setFault x).txDone = s.txDone := rfl
@[simp] theorem State.setFault_tx (x : FaultRec) : (s.setFault x).tx = s.tx := rfl
@[simp] theorem State.setFault_dec (x : FaultRec) : (s.setFault x).dec = s.dec := rfl
@[simp] theorem State.setFault_sync (x : FaultRec) : (s.setFault x).sync = s.sync := rfl
@[simp] theorem State.setFault_tickCnt (x : FaultRec) : (s.setFault x).tickCnt = s.tickCnt := rfl
@[simp] theorem State.setFault_rfTxOut (x : FaultRec) : (s.setFault x).rfTxOut = s.rfTxOut := rfl
@[simp] theorem State.setFault_irq (x : FaultRec) : (s.setFault x).irq = s.irq := rfl
@[simp] theorem State.setFault_readData (x : FaultRec) : (s.setFault x).readData = s.readData := rfl
@[simp] theorem State.setFault_inputs (x : FaultRec) : (s.setFault x).inputs = s.inputs := rfl
@[simp] theorem State.setFault_clock (x : FaultRec) : (s.setFault x).clock = s.clock := rfl

@[simp] theorem State.setTimer_ctrl (x : Word) : (s.setTimer x).ctrl = s.ctrl := rfl
@[simp] theorem State.setTimer_fault (x : Word) : (s.setTimer x).fault = s.fault := rfl
@[simp] theorem State.setTimer_timer (x : Word) : (s.setTimer x).timer = x := rfl
@[simp] theorem State.setTimer_prof (x : Word) : (s.setTimer x).prof = s.prof := rfl
@[simp] theorem State.setTimer_profValid (x : Word) : (s.setTimer x).profValid = s.profValid := rfl
@[simp] theorem State.setTimer_rx (x : Word) : (s.setTimer x).rx = s.rx := rfl
@[simp] theorem State.setTimer_ctlValue (x : Word) : (s.setTimer x).ctlValue = s.ctlValue := rfl
@[simp] theorem State.setTimer_ctlThresh (x : Word) : (s.setTimer x).ctlThresh = s.ctlThresh := rfl
@[simp] theorem State.setTimer_ctl (x : Word) : (s.setTimer x).ctl = s.ctl := rfl
@[simp] theorem State.setTimer_intent (x : Word) : (s.setTimer x).intent = s.intent := rfl
@[simp] theorem State.setTimer_ctlSeq (x : Word) : (s.setTimer x).ctlSeq = s.ctlSeq := rfl
@[simp] theorem State.setTimer_txDone (x : Word) : (s.setTimer x).txDone = s.txDone := rfl
@[simp] theorem State.setTimer_tx (x : Word) : (s.setTimer x).tx = s.tx := rfl
@[simp] theorem State.setTimer_dec (x : Word) : (s.setTimer x).dec = s.dec := rfl
@[simp] theorem State.setTimer_sync (x : Word) : (s.setTimer x).sync = s.sync := rfl
@[simp] theorem State.setTimer_tickCnt (x : Word) : (s.setTimer x).tickCnt = s.tickCnt := rfl
@[simp] theorem State.setTimer_rfTxOut (x : Word) : (s.setTimer x).rfTxOut = s.rfTxOut := rfl
@[simp] theorem State.setTimer_irq (x : Word) : (s.setTimer x).irq = s.irq := rfl
@[simp] theorem State.setTimer_readData (x : Word) : (s.setTimer x).readData = s.readData := rfl
@[simp] theorem State.setTimer_inputs (x : Word) : (s.setTimer x).inputs = s.inputs := rfl
@[simp] theorem State.setTimer_clock (x : Word) : (s.setTimer x).clock = s.clock := rfl

@[simp] theorem State.setProf_ctrl (x : Profile) : (s.setProf x).ctrl = s.ctrl := rfl
@[simp] theorem State.setProf_fault (x : Profile) : (s.setProf x).fault = s.fault := rfl
@[simp] theorem State.setProf_timer (x : Profile) : (s.setProf x).timer = s.timer := rfl
@[simp] theorem State.setProf_prof (x : Profile) : (s.setProf x).prof = x := rfl
@[simp] theorem State.setProf_profValid (x : Profile) : (s.setProf x).profValid = s.profValid := rfl
@[simp] theorem State.setProf_rx (x : Profile) : (s.setProf x).rx = s.rx := rfl
@[simp] theorem State.setProf_ctlValue (x : Profile) : (s.setProf x).ctlValue = s.ctlValue := rfl
@[simp] theorem State.setProf_ctlThresh (x : Profile) : (s.setProf x).ctlThresh = s.ctlThresh := rfl
@[simp] theorem State.setProf_ctl (x : Profile) : (s.setProf x).ctl = s.ctl := rfl
@[simp] theorem State.setProf_intent (x : Profile) : (s.setProf x).intent = s.intent := rfl
@[simp] theorem State.setProf_ctlSeq (x : Profile) : (s.setProf x).ctlSeq = s.ctlSeq := rfl
@[simp] theorem State.setProf_txDone (x : Profile) : (s.setProf x).txDone = s.txDone := rfl
@[simp] theorem State.setProf_tx (x : Profile) : (s.setProf x).tx = s.tx := rfl
@[simp] theorem State.setProf_dec (x : Profile) : (s.setProf x).dec = s.dec := rfl
@[simp] theorem State.setProf_sync (x : Profile) : (s.setProf x).sync = s.sync := rfl
@[simp] theorem State.setProf_tickCnt (x : Profile) : (s.setProf x).tickCnt = s.tickCnt := rfl
@[simp] theorem State.setProf_rfTxOut (x : Profile) : (s.setProf x).rfTxOut = s.rfTxOut := rfl
@[simp] theorem State.setProf_irq (x : Profile) : (s.setProf x).irq = s.irq := rfl
@[simp] theorem State.setProf_readData (x : Profile) : (s.setProf x).readData = s.readData := rfl
@[simp] theorem State.setProf_inputs (x : Profile) : (s.setProf x).inputs = s.inputs := rfl
@[simp] theorem State.setProf_clock (x : Profile) : (s.setProf x).clock = s.clock := rfl

@[simp] theorem State.setProfValid_ctrl (x : BitVec 5) : (s.setProfValid x).ctrl = s.ctrl := rfl
@[simp] theorem State.setProfValid_fault (x : BitVec 5) : (s.setProfValid x).fault = s.fault := rfl
@[simp] theorem State.setProfValid_timer (x : BitVec 5) : (s.setProfValid x).timer = s.timer := rfl
@[simp] theorem State.setProfValid_prof (x : BitVec 5) : (s.setProfValid x).prof = s.prof := rfl
@[simp] theorem State.setProfValid_profValid (x : BitVec 5) : (s.setProfValid x).profValid = x := rfl
@[simp] theorem State.setProfValid_rx (x : BitVec 5) : (s.setProfValid x).rx = s.rx := rfl
@[simp] theorem State.setProfValid_ctlValue (x : BitVec 5) : (s.setProfValid x).ctlValue = s.ctlValue := rfl
@[simp] theorem State.setProfValid_ctlThresh (x : BitVec 5) : (s.setProfValid x).ctlThresh = s.ctlThresh := rfl
@[simp] theorem State.setProfValid_ctl (x : BitVec 5) : (s.setProfValid x).ctl = s.ctl := rfl
@[simp] theorem State.setProfValid_intent (x : BitVec 5) : (s.setProfValid x).intent = s.intent := rfl
@[simp] theorem State.setProfValid_ctlSeq (x : BitVec 5) : (s.setProfValid x).ctlSeq = s.ctlSeq := rfl
@[simp] theorem State.setProfValid_txDone (x : BitVec 5) : (s.setProfValid x).txDone = s.txDone := rfl
@[simp] theorem State.setProfValid_tx (x : BitVec 5) : (s.setProfValid x).tx = s.tx := rfl
@[simp] theorem State.setProfValid_dec (x : BitVec 5) : (s.setProfValid x).dec = s.dec := rfl
@[simp] theorem State.setProfValid_sync (x : BitVec 5) : (s.setProfValid x).sync = s.sync := rfl
@[simp] theorem State.setProfValid_tickCnt (x : BitVec 5) : (s.setProfValid x).tickCnt = s.tickCnt := rfl
@[simp] theorem State.setProfValid_rfTxOut (x : BitVec 5) : (s.setProfValid x).rfTxOut = s.rfTxOut := rfl
@[simp] theorem State.setProfValid_irq (x : BitVec 5) : (s.setProfValid x).irq = s.irq := rfl
@[simp] theorem State.setProfValid_readData (x : BitVec 5) : (s.setProfValid x).readData = s.readData := rfl
@[simp] theorem State.setProfValid_inputs (x : BitVec 5) : (s.setProfValid x).inputs = s.inputs := rfl
@[simp] theorem State.setProfValid_clock (x : BitVec 5) : (s.setProfValid x).clock = s.clock := rfl

@[simp] theorem State.setRx_ctrl (x : RxLatch) : (s.setRx x).ctrl = s.ctrl := rfl
@[simp] theorem State.setRx_fault (x : RxLatch) : (s.setRx x).fault = s.fault := rfl
@[simp] theorem State.setRx_timer (x : RxLatch) : (s.setRx x).timer = s.timer := rfl
@[simp] theorem State.setRx_prof (x : RxLatch) : (s.setRx x).prof = s.prof := rfl
@[simp] theorem State.setRx_profValid (x : RxLatch) : (s.setRx x).profValid = s.profValid := rfl
@[simp] theorem State.setRx_rx (x : RxLatch) : (s.setRx x).rx = x := rfl
@[simp] theorem State.setRx_ctlValue (x : RxLatch) : (s.setRx x).ctlValue = s.ctlValue := rfl
@[simp] theorem State.setRx_ctlThresh (x : RxLatch) : (s.setRx x).ctlThresh = s.ctlThresh := rfl
@[simp] theorem State.setRx_ctl (x : RxLatch) : (s.setRx x).ctl = s.ctl := rfl
@[simp] theorem State.setRx_intent (x : RxLatch) : (s.setRx x).intent = s.intent := rfl
@[simp] theorem State.setRx_ctlSeq (x : RxLatch) : (s.setRx x).ctlSeq = s.ctlSeq := rfl
@[simp] theorem State.setRx_txDone (x : RxLatch) : (s.setRx x).txDone = s.txDone := rfl
@[simp] theorem State.setRx_tx (x : RxLatch) : (s.setRx x).tx = s.tx := rfl
@[simp] theorem State.setRx_dec (x : RxLatch) : (s.setRx x).dec = s.dec := rfl
@[simp] theorem State.setRx_sync (x : RxLatch) : (s.setRx x).sync = s.sync := rfl
@[simp] theorem State.setRx_tickCnt (x : RxLatch) : (s.setRx x).tickCnt = s.tickCnt := rfl
@[simp] theorem State.setRx_rfTxOut (x : RxLatch) : (s.setRx x).rfTxOut = s.rfTxOut := rfl
@[simp] theorem State.setRx_irq (x : RxLatch) : (s.setRx x).irq = s.irq := rfl
@[simp] theorem State.setRx_readData (x : RxLatch) : (s.setRx x).readData = s.readData := rfl
@[simp] theorem State.setRx_inputs (x : RxLatch) : (s.setRx x).inputs = s.inputs := rfl
@[simp] theorem State.setRx_clock (x : RxLatch) : (s.setRx x).clock = s.clock := rfl

@[simp] theorem State.setCtlValue_ctrl (x : Sample) : (s.setCtlValue x).ctrl = s.ctrl := rfl
@[simp] theorem State.setCtlValue_fault (x : Sample) : (s.setCtlValue x).fault = s.fault := rfl
@[simp] theorem State.setCtlValue_timer (x : Sample) : (s.setCtlValue x).timer = s.timer := rfl
@[simp] theorem State.setCtlValue_prof (x : Sample) : (s.setCtlValue x).prof = s.prof := rfl
@[simp] theorem State.setCtlValue_profValid (x : Sample) : (s.setCtlValue x).profValid = s.profValid := rfl
@[simp] theorem State.setCtlValue_rx (x : Sample) : (s.setCtlValue x).rx = s.rx := rfl
@[simp] theorem State.setCtlValue_ctlValue (x : Sample) : (s.setCtlValue x).ctlValue = x := rfl
@[simp] theorem State.setCtlValue_ctlThresh (x : Sample) : (s.setCtlValue x).ctlThresh = s.ctlThresh := rfl
@[simp] theorem State.setCtlValue_ctl (x : Sample) : (s.setCtlValue x).ctl = s.ctl := rfl
@[simp] theorem State.setCtlValue_intent (x : Sample) : (s.setCtlValue x).intent = s.intent := rfl
@[simp] theorem State.setCtlValue_ctlSeq (x : Sample) : (s.setCtlValue x).ctlSeq = s.ctlSeq := rfl
@[simp] theorem State.setCtlValue_txDone (x : Sample) : (s.setCtlValue x).txDone = s.txDone := rfl
@[simp] theorem State.setCtlValue_tx (x : Sample) : (s.setCtlValue x).tx = s.tx := rfl
@[simp] theorem State.setCtlValue_dec (x : Sample) : (s.setCtlValue x).dec = s.dec := rfl
@[simp] theorem State.setCtlValue_sync (x : Sample) : (s.setCtlValue x).sync = s.sync := rfl
@[simp] theorem State.setCtlValue_tickCnt (x : Sample) : (s.setCtlValue x).tickCnt = s.tickCnt := rfl
@[simp] theorem State.setCtlValue_rfTxOut (x : Sample) : (s.setCtlValue x).rfTxOut = s.rfTxOut := rfl
@[simp] theorem State.setCtlValue_irq (x : Sample) : (s.setCtlValue x).irq = s.irq := rfl
@[simp] theorem State.setCtlValue_readData (x : Sample) : (s.setCtlValue x).readData = s.readData := rfl
@[simp] theorem State.setCtlValue_inputs (x : Sample) : (s.setCtlValue x).inputs = s.inputs := rfl
@[simp] theorem State.setCtlValue_clock (x : Sample) : (s.setCtlValue x).clock = s.clock := rfl

@[simp] theorem State.setCtlThresh_ctrl (x : Sample) : (s.setCtlThresh x).ctrl = s.ctrl := rfl
@[simp] theorem State.setCtlThresh_fault (x : Sample) : (s.setCtlThresh x).fault = s.fault := rfl
@[simp] theorem State.setCtlThresh_timer (x : Sample) : (s.setCtlThresh x).timer = s.timer := rfl
@[simp] theorem State.setCtlThresh_prof (x : Sample) : (s.setCtlThresh x).prof = s.prof := rfl
@[simp] theorem State.setCtlThresh_profValid (x : Sample) : (s.setCtlThresh x).profValid = s.profValid := rfl
@[simp] theorem State.setCtlThresh_rx (x : Sample) : (s.setCtlThresh x).rx = s.rx := rfl
@[simp] theorem State.setCtlThresh_ctlValue (x : Sample) : (s.setCtlThresh x).ctlValue = s.ctlValue := rfl
@[simp] theorem State.setCtlThresh_ctlThresh (x : Sample) : (s.setCtlThresh x).ctlThresh = x := rfl
@[simp] theorem State.setCtlThresh_ctl (x : Sample) : (s.setCtlThresh x).ctl = s.ctl := rfl
@[simp] theorem State.setCtlThresh_intent (x : Sample) : (s.setCtlThresh x).intent = s.intent := rfl
@[simp] theorem State.setCtlThresh_ctlSeq (x : Sample) : (s.setCtlThresh x).ctlSeq = s.ctlSeq := rfl
@[simp] theorem State.setCtlThresh_txDone (x : Sample) : (s.setCtlThresh x).txDone = s.txDone := rfl
@[simp] theorem State.setCtlThresh_tx (x : Sample) : (s.setCtlThresh x).tx = s.tx := rfl
@[simp] theorem State.setCtlThresh_dec (x : Sample) : (s.setCtlThresh x).dec = s.dec := rfl
@[simp] theorem State.setCtlThresh_sync (x : Sample) : (s.setCtlThresh x).sync = s.sync := rfl
@[simp] theorem State.setCtlThresh_tickCnt (x : Sample) : (s.setCtlThresh x).tickCnt = s.tickCnt := rfl
@[simp] theorem State.setCtlThresh_rfTxOut (x : Sample) : (s.setCtlThresh x).rfTxOut = s.rfTxOut := rfl
@[simp] theorem State.setCtlThresh_irq (x : Sample) : (s.setCtlThresh x).irq = s.irq := rfl
@[simp] theorem State.setCtlThresh_readData (x : Sample) : (s.setCtlThresh x).readData = s.readData := rfl
@[simp] theorem State.setCtlThresh_inputs (x : Sample) : (s.setCtlThresh x).inputs = s.inputs := rfl
@[simp] theorem State.setCtlThresh_clock (x : Sample) : (s.setCtlThresh x).clock = s.clock := rfl

@[simp] theorem State.setCtl_ctrl (x : ControlState) : (s.setCtl x).ctrl = s.ctrl := rfl
@[simp] theorem State.setCtl_fault (x : ControlState) : (s.setCtl x).fault = s.fault := rfl
@[simp] theorem State.setCtl_timer (x : ControlState) : (s.setCtl x).timer = s.timer := rfl
@[simp] theorem State.setCtl_prof (x : ControlState) : (s.setCtl x).prof = s.prof := rfl
@[simp] theorem State.setCtl_profValid (x : ControlState) : (s.setCtl x).profValid = s.profValid := rfl
@[simp] theorem State.setCtl_rx (x : ControlState) : (s.setCtl x).rx = s.rx := rfl
@[simp] theorem State.setCtl_ctlValue (x : ControlState) : (s.setCtl x).ctlValue = s.ctlValue := rfl
@[simp] theorem State.setCtl_ctlThresh (x : ControlState) : (s.setCtl x).ctlThresh = s.ctlThresh := rfl
@[simp] theorem State.setCtl_ctl (x : ControlState) : (s.setCtl x).ctl = x := rfl
@[simp] theorem State.setCtl_intent (x : ControlState) : (s.setCtl x).intent = s.intent := rfl
@[simp] theorem State.setCtl_ctlSeq (x : ControlState) : (s.setCtl x).ctlSeq = s.ctlSeq := rfl
@[simp] theorem State.setCtl_txDone (x : ControlState) : (s.setCtl x).txDone = s.txDone := rfl
@[simp] theorem State.setCtl_tx (x : ControlState) : (s.setCtl x).tx = s.tx := rfl
@[simp] theorem State.setCtl_dec (x : ControlState) : (s.setCtl x).dec = s.dec := rfl
@[simp] theorem State.setCtl_sync (x : ControlState) : (s.setCtl x).sync = s.sync := rfl
@[simp] theorem State.setCtl_tickCnt (x : ControlState) : (s.setCtl x).tickCnt = s.tickCnt := rfl
@[simp] theorem State.setCtl_rfTxOut (x : ControlState) : (s.setCtl x).rfTxOut = s.rfTxOut := rfl
@[simp] theorem State.setCtl_irq (x : ControlState) : (s.setCtl x).irq = s.irq := rfl
@[simp] theorem State.setCtl_readData (x : ControlState) : (s.setCtl x).readData = s.readData := rfl
@[simp] theorem State.setCtl_inputs (x : ControlState) : (s.setCtl x).inputs = s.inputs := rfl
@[simp] theorem State.setCtl_clock (x : ControlState) : (s.setCtl x).clock = s.clock := rfl

@[simp] theorem State.setIntent_ctrl (x : IntentMask) : (s.setIntent x).ctrl = s.ctrl := rfl
@[simp] theorem State.setIntent_fault (x : IntentMask) : (s.setIntent x).fault = s.fault := rfl
@[simp] theorem State.setIntent_timer (x : IntentMask) : (s.setIntent x).timer = s.timer := rfl
@[simp] theorem State.setIntent_prof (x : IntentMask) : (s.setIntent x).prof = s.prof := rfl
@[simp] theorem State.setIntent_profValid (x : IntentMask) : (s.setIntent x).profValid = s.profValid := rfl
@[simp] theorem State.setIntent_rx (x : IntentMask) : (s.setIntent x).rx = s.rx := rfl
@[simp] theorem State.setIntent_ctlValue (x : IntentMask) : (s.setIntent x).ctlValue = s.ctlValue := rfl
@[simp] theorem State.setIntent_ctlThresh (x : IntentMask) : (s.setIntent x).ctlThresh = s.ctlThresh := rfl
@[simp] theorem State.setIntent_ctl (x : IntentMask) : (s.setIntent x).ctl = s.ctl := rfl
@[simp] theorem State.setIntent_intent (x : IntentMask) : (s.setIntent x).intent = x := rfl
@[simp] theorem State.setIntent_ctlSeq (x : IntentMask) : (s.setIntent x).ctlSeq = s.ctlSeq := rfl
@[simp] theorem State.setIntent_txDone (x : IntentMask) : (s.setIntent x).txDone = s.txDone := rfl
@[simp] theorem State.setIntent_tx (x : IntentMask) : (s.setIntent x).tx = s.tx := rfl
@[simp] theorem State.setIntent_dec (x : IntentMask) : (s.setIntent x).dec = s.dec := rfl
@[simp] theorem State.setIntent_sync (x : IntentMask) : (s.setIntent x).sync = s.sync := rfl
@[simp] theorem State.setIntent_tickCnt (x : IntentMask) : (s.setIntent x).tickCnt = s.tickCnt := rfl
@[simp] theorem State.setIntent_rfTxOut (x : IntentMask) : (s.setIntent x).rfTxOut = s.rfTxOut := rfl
@[simp] theorem State.setIntent_irq (x : IntentMask) : (s.setIntent x).irq = s.irq := rfl
@[simp] theorem State.setIntent_readData (x : IntentMask) : (s.setIntent x).readData = s.readData := rfl
@[simp] theorem State.setIntent_inputs (x : IntentMask) : (s.setIntent x).inputs = s.inputs := rfl
@[simp] theorem State.setIntent_clock (x : IntentMask) : (s.setIntent x).clock = s.clock := rfl

@[simp] theorem State.setCtlSeq_ctrl (x : Word) : (s.setCtlSeq x).ctrl = s.ctrl := rfl
@[simp] theorem State.setCtlSeq_fault (x : Word) : (s.setCtlSeq x).fault = s.fault := rfl
@[simp] theorem State.setCtlSeq_timer (x : Word) : (s.setCtlSeq x).timer = s.timer := rfl
@[simp] theorem State.setCtlSeq_prof (x : Word) : (s.setCtlSeq x).prof = s.prof := rfl
@[simp] theorem State.setCtlSeq_profValid (x : Word) : (s.setCtlSeq x).profValid = s.profValid := rfl
@[simp] theorem State.setCtlSeq_rx (x : Word) : (s.setCtlSeq x).rx = s.rx := rfl
@[simp] theorem State.setCtlSeq_ctlValue (x : Word) : (s.setCtlSeq x).ctlValue = s.ctlValue := rfl
@[simp] theorem State.setCtlSeq_ctlThresh (x : Word) : (s.setCtlSeq x).ctlThresh = s.ctlThresh := rfl
@[simp] theorem State.setCtlSeq_ctl (x : Word) : (s.setCtlSeq x).ctl = s.ctl := rfl
@[simp] theorem State.setCtlSeq_intent (x : Word) : (s.setCtlSeq x).intent = s.intent := rfl
@[simp] theorem State.setCtlSeq_ctlSeq (x : Word) : (s.setCtlSeq x).ctlSeq = x := rfl
@[simp] theorem State.setCtlSeq_txDone (x : Word) : (s.setCtlSeq x).txDone = s.txDone := rfl
@[simp] theorem State.setCtlSeq_tx (x : Word) : (s.setCtlSeq x).tx = s.tx := rfl
@[simp] theorem State.setCtlSeq_dec (x : Word) : (s.setCtlSeq x).dec = s.dec := rfl
@[simp] theorem State.setCtlSeq_sync (x : Word) : (s.setCtlSeq x).sync = s.sync := rfl
@[simp] theorem State.setCtlSeq_tickCnt (x : Word) : (s.setCtlSeq x).tickCnt = s.tickCnt := rfl
@[simp] theorem State.setCtlSeq_rfTxOut (x : Word) : (s.setCtlSeq x).rfTxOut = s.rfTxOut := rfl
@[simp] theorem State.setCtlSeq_irq (x : Word) : (s.setCtlSeq x).irq = s.irq := rfl
@[simp] theorem State.setCtlSeq_readData (x : Word) : (s.setCtlSeq x).readData = s.readData := rfl
@[simp] theorem State.setCtlSeq_inputs (x : Word) : (s.setCtlSeq x).inputs = s.inputs := rfl
@[simp] theorem State.setCtlSeq_clock (x : Word) : (s.setCtlSeq x).clock = s.clock := rfl

@[simp] theorem State.setTxDone_ctrl (x : Bool) : (s.setTxDone x).ctrl = s.ctrl := rfl
@[simp] theorem State.setTxDone_fault (x : Bool) : (s.setTxDone x).fault = s.fault := rfl
@[simp] theorem State.setTxDone_timer (x : Bool) : (s.setTxDone x).timer = s.timer := rfl
@[simp] theorem State.setTxDone_prof (x : Bool) : (s.setTxDone x).prof = s.prof := rfl
@[simp] theorem State.setTxDone_profValid (x : Bool) : (s.setTxDone x).profValid = s.profValid := rfl
@[simp] theorem State.setTxDone_rx (x : Bool) : (s.setTxDone x).rx = s.rx := rfl
@[simp] theorem State.setTxDone_ctlValue (x : Bool) : (s.setTxDone x).ctlValue = s.ctlValue := rfl
@[simp] theorem State.setTxDone_ctlThresh (x : Bool) : (s.setTxDone x).ctlThresh = s.ctlThresh := rfl
@[simp] theorem State.setTxDone_ctl (x : Bool) : (s.setTxDone x).ctl = s.ctl := rfl
@[simp] theorem State.setTxDone_intent (x : Bool) : (s.setTxDone x).intent = s.intent := rfl
@[simp] theorem State.setTxDone_ctlSeq (x : Bool) : (s.setTxDone x).ctlSeq = s.ctlSeq := rfl
@[simp] theorem State.setTxDone_txDone (x : Bool) : (s.setTxDone x).txDone = x := rfl
@[simp] theorem State.setTxDone_tx (x : Bool) : (s.setTxDone x).tx = s.tx := rfl
@[simp] theorem State.setTxDone_dec (x : Bool) : (s.setTxDone x).dec = s.dec := rfl
@[simp] theorem State.setTxDone_sync (x : Bool) : (s.setTxDone x).sync = s.sync := rfl
@[simp] theorem State.setTxDone_tickCnt (x : Bool) : (s.setTxDone x).tickCnt = s.tickCnt := rfl
@[simp] theorem State.setTxDone_rfTxOut (x : Bool) : (s.setTxDone x).rfTxOut = s.rfTxOut := rfl
@[simp] theorem State.setTxDone_irq (x : Bool) : (s.setTxDone x).irq = s.irq := rfl
@[simp] theorem State.setTxDone_readData (x : Bool) : (s.setTxDone x).readData = s.readData := rfl
@[simp] theorem State.setTxDone_inputs (x : Bool) : (s.setTxDone x).inputs = s.inputs := rfl
@[simp] theorem State.setTxDone_clock (x : Bool) : (s.setTxDone x).clock = s.clock := rfl

@[simp] theorem State.setTx_ctrl (x : TxEngine) : (s.setTx x).ctrl = s.ctrl := rfl
@[simp] theorem State.setTx_fault (x : TxEngine) : (s.setTx x).fault = s.fault := rfl
@[simp] theorem State.setTx_timer (x : TxEngine) : (s.setTx x).timer = s.timer := rfl
@[simp] theorem State.setTx_prof (x : TxEngine) : (s.setTx x).prof = s.prof := rfl
@[simp] theorem State.setTx_profValid (x : TxEngine) : (s.setTx x).profValid = s.profValid := rfl
@[simp] theorem State.setTx_rx (x : TxEngine) : (s.setTx x).rx = s.rx := rfl
@[simp] theorem State.setTx_ctlValue (x : TxEngine) : (s.setTx x).ctlValue = s.ctlValue := rfl
@[simp] theorem State.setTx_ctlThresh (x : TxEngine) : (s.setTx x).ctlThresh = s.ctlThresh := rfl
@[simp] theorem State.setTx_ctl (x : TxEngine) : (s.setTx x).ctl = s.ctl := rfl
@[simp] theorem State.setTx_intent (x : TxEngine) : (s.setTx x).intent = s.intent := rfl
@[simp] theorem State.setTx_ctlSeq (x : TxEngine) : (s.setTx x).ctlSeq = s.ctlSeq := rfl
@[simp] theorem State.setTx_txDone (x : TxEngine) : (s.setTx x).txDone = s.txDone := rfl
@[simp] theorem State.setTx_tx (x : TxEngine) : (s.setTx x).tx = x := rfl
@[simp] theorem State.setTx_dec (x : TxEngine) : (s.setTx x).dec = s.dec := rfl
@[simp] theorem State.setTx_sync (x : TxEngine) : (s.setTx x).sync = s.sync := rfl
@[simp] theorem State.setTx_tickCnt (x : TxEngine) : (s.setTx x).tickCnt = s.tickCnt := rfl
@[simp] theorem State.setTx_rfTxOut (x : TxEngine) : (s.setTx x).rfTxOut = s.rfTxOut := rfl
@[simp] theorem State.setTx_irq (x : TxEngine) : (s.setTx x).irq = s.irq := rfl
@[simp] theorem State.setTx_readData (x : TxEngine) : (s.setTx x).readData = s.readData := rfl
@[simp] theorem State.setTx_inputs (x : TxEngine) : (s.setTx x).inputs = s.inputs := rfl
@[simp] theorem State.setTx_clock (x : TxEngine) : (s.setTx x).clock = s.clock := rfl

@[simp] theorem State.setDec_ctrl (x : RxDecoder) : (s.setDec x).ctrl = s.ctrl := rfl
@[simp] theorem State.setDec_fault (x : RxDecoder) : (s.setDec x).fault = s.fault := rfl
@[simp] theorem State.setDec_timer (x : RxDecoder) : (s.setDec x).timer = s.timer := rfl
@[simp] theorem State.setDec_prof (x : RxDecoder) : (s.setDec x).prof = s.prof := rfl
@[simp] theorem State.setDec_profValid (x : RxDecoder) : (s.setDec x).profValid = s.profValid := rfl
@[simp] theorem State.setDec_rx (x : RxDecoder) : (s.setDec x).rx = s.rx := rfl
@[simp] theorem State.setDec_ctlValue (x : RxDecoder) : (s.setDec x).ctlValue = s.ctlValue := rfl
@[simp] theorem State.setDec_ctlThresh (x : RxDecoder) : (s.setDec x).ctlThresh = s.ctlThresh := rfl
@[simp] theorem State.setDec_ctl (x : RxDecoder) : (s.setDec x).ctl = s.ctl := rfl
@[simp] theorem State.setDec_intent (x : RxDecoder) : (s.setDec x).intent = s.intent := rfl
@[simp] theorem State.setDec_ctlSeq (x : RxDecoder) : (s.setDec x).ctlSeq = s.ctlSeq := rfl
@[simp] theorem State.setDec_txDone (x : RxDecoder) : (s.setDec x).txDone = s.txDone := rfl
@[simp] theorem State.setDec_tx (x : RxDecoder) : (s.setDec x).tx = s.tx := rfl
@[simp] theorem State.setDec_dec (x : RxDecoder) : (s.setDec x).dec = x := rfl
@[simp] theorem State.setDec_sync (x : RxDecoder) : (s.setDec x).sync = s.sync := rfl
@[simp] theorem State.setDec_tickCnt (x : RxDecoder) : (s.setDec x).tickCnt = s.tickCnt := rfl
@[simp] theorem State.setDec_rfTxOut (x : RxDecoder) : (s.setDec x).rfTxOut = s.rfTxOut := rfl
@[simp] theorem State.setDec_irq (x : RxDecoder) : (s.setDec x).irq = s.irq := rfl
@[simp] theorem State.setDec_readData (x : RxDecoder) : (s.setDec x).readData = s.readData := rfl
@[simp] theorem State.setDec_inputs (x : RxDecoder) : (s.setDec x).inputs = s.inputs := rfl
@[simp] theorem State.setDec_clock (x : RxDecoder) : (s.setDec x).clock = s.clock := rfl

@[simp] theorem State.setSync_ctrl (x : Synchroniser) : (s.setSync x).ctrl = s.ctrl := rfl
@[simp] theorem State.setSync_fault (x : Synchroniser) : (s.setSync x).fault = s.fault := rfl
@[simp] theorem State.setSync_timer (x : Synchroniser) : (s.setSync x).timer = s.timer := rfl
@[simp] theorem State.setSync_prof (x : Synchroniser) : (s.setSync x).prof = s.prof := rfl
@[simp] theorem State.setSync_profValid (x : Synchroniser) : (s.setSync x).profValid = s.profValid := rfl
@[simp] theorem State.setSync_rx (x : Synchroniser) : (s.setSync x).rx = s.rx := rfl
@[simp] theorem State.setSync_ctlValue (x : Synchroniser) : (s.setSync x).ctlValue = s.ctlValue := rfl
@[simp] theorem State.setSync_ctlThresh (x : Synchroniser) : (s.setSync x).ctlThresh = s.ctlThresh := rfl
@[simp] theorem State.setSync_ctl (x : Synchroniser) : (s.setSync x).ctl = s.ctl := rfl
@[simp] theorem State.setSync_intent (x : Synchroniser) : (s.setSync x).intent = s.intent := rfl
@[simp] theorem State.setSync_ctlSeq (x : Synchroniser) : (s.setSync x).ctlSeq = s.ctlSeq := rfl
@[simp] theorem State.setSync_txDone (x : Synchroniser) : (s.setSync x).txDone = s.txDone := rfl
@[simp] theorem State.setSync_tx (x : Synchroniser) : (s.setSync x).tx = s.tx := rfl
@[simp] theorem State.setSync_dec (x : Synchroniser) : (s.setSync x).dec = s.dec := rfl
@[simp] theorem State.setSync_sync (x : Synchroniser) : (s.setSync x).sync = x := rfl
@[simp] theorem State.setSync_tickCnt (x : Synchroniser) : (s.setSync x).tickCnt = s.tickCnt := rfl
@[simp] theorem State.setSync_rfTxOut (x : Synchroniser) : (s.setSync x).rfTxOut = s.rfTxOut := rfl
@[simp] theorem State.setSync_irq (x : Synchroniser) : (s.setSync x).irq = s.irq := rfl
@[simp] theorem State.setSync_readData (x : Synchroniser) : (s.setSync x).readData = s.readData := rfl
@[simp] theorem State.setSync_inputs (x : Synchroniser) : (s.setSync x).inputs = s.inputs := rfl
@[simp] theorem State.setSync_clock (x : Synchroniser) : (s.setSync x).clock = s.clock := rfl

@[simp] theorem State.setTickCnt_ctrl (x : Nat) : (s.setTickCnt x).ctrl = s.ctrl := rfl
@[simp] theorem State.setTickCnt_fault (x : Nat) : (s.setTickCnt x).fault = s.fault := rfl
@[simp] theorem State.setTickCnt_timer (x : Nat) : (s.setTickCnt x).timer = s.timer := rfl
@[simp] theorem State.setTickCnt_prof (x : Nat) : (s.setTickCnt x).prof = s.prof := rfl
@[simp] theorem State.setTickCnt_profValid (x : Nat) : (s.setTickCnt x).profValid = s.profValid := rfl
@[simp] theorem State.setTickCnt_rx (x : Nat) : (s.setTickCnt x).rx = s.rx := rfl
@[simp] theorem State.setTickCnt_ctlValue (x : Nat) : (s.setTickCnt x).ctlValue = s.ctlValue := rfl
@[simp] theorem State.setTickCnt_ctlThresh (x : Nat) : (s.setTickCnt x).ctlThresh = s.ctlThresh := rfl
@[simp] theorem State.setTickCnt_ctl (x : Nat) : (s.setTickCnt x).ctl = s.ctl := rfl
@[simp] theorem State.setTickCnt_intent (x : Nat) : (s.setTickCnt x).intent = s.intent := rfl
@[simp] theorem State.setTickCnt_ctlSeq (x : Nat) : (s.setTickCnt x).ctlSeq = s.ctlSeq := rfl
@[simp] theorem State.setTickCnt_txDone (x : Nat) : (s.setTickCnt x).txDone = s.txDone := rfl
@[simp] theorem State.setTickCnt_tx (x : Nat) : (s.setTickCnt x).tx = s.tx := rfl
@[simp] theorem State.setTickCnt_dec (x : Nat) : (s.setTickCnt x).dec = s.dec := rfl
@[simp] theorem State.setTickCnt_sync (x : Nat) : (s.setTickCnt x).sync = s.sync := rfl
@[simp] theorem State.setTickCnt_tickCnt (x : Nat) : (s.setTickCnt x).tickCnt = x := rfl
@[simp] theorem State.setTickCnt_rfTxOut (x : Nat) : (s.setTickCnt x).rfTxOut = s.rfTxOut := rfl
@[simp] theorem State.setTickCnt_irq (x : Nat) : (s.setTickCnt x).irq = s.irq := rfl
@[simp] theorem State.setTickCnt_readData (x : Nat) : (s.setTickCnt x).readData = s.readData := rfl
@[simp] theorem State.setTickCnt_inputs (x : Nat) : (s.setTickCnt x).inputs = s.inputs := rfl
@[simp] theorem State.setTickCnt_clock (x : Nat) : (s.setTickCnt x).clock = s.clock := rfl

@[simp] theorem State.setRfTxOut_ctrl (x : Bool) : (s.setRfTxOut x).ctrl = s.ctrl := rfl
@[simp] theorem State.setRfTxOut_fault (x : Bool) : (s.setRfTxOut x).fault = s.fault := rfl
@[simp] theorem State.setRfTxOut_timer (x : Bool) : (s.setRfTxOut x).timer = s.timer := rfl
@[simp] theorem State.setRfTxOut_prof (x : Bool) : (s.setRfTxOut x).prof = s.prof := rfl
@[simp] theorem State.setRfTxOut_profValid (x : Bool) : (s.setRfTxOut x).profValid = s.profValid := rfl
@[simp] theorem State.setRfTxOut_rx (x : Bool) : (s.setRfTxOut x).rx = s.rx := rfl
@[simp] theorem State.setRfTxOut_ctlValue (x : Bool) : (s.setRfTxOut x).ctlValue = s.ctlValue := rfl
@[simp] theorem State.setRfTxOut_ctlThresh (x : Bool) : (s.setRfTxOut x).ctlThresh = s.ctlThresh := rfl
@[simp] theorem State.setRfTxOut_ctl (x : Bool) : (s.setRfTxOut x).ctl = s.ctl := rfl
@[simp] theorem State.setRfTxOut_intent (x : Bool) : (s.setRfTxOut x).intent = s.intent := rfl
@[simp] theorem State.setRfTxOut_ctlSeq (x : Bool) : (s.setRfTxOut x).ctlSeq = s.ctlSeq := rfl
@[simp] theorem State.setRfTxOut_txDone (x : Bool) : (s.setRfTxOut x).txDone = s.txDone := rfl
@[simp] theorem State.setRfTxOut_tx (x : Bool) : (s.setRfTxOut x).tx = s.tx := rfl
@[simp] theorem State.setRfTxOut_dec (x : Bool) : (s.setRfTxOut x).dec = s.dec := rfl
@[simp] theorem State.setRfTxOut_sync (x : Bool) : (s.setRfTxOut x).sync = s.sync := rfl
@[simp] theorem State.setRfTxOut_tickCnt (x : Bool) : (s.setRfTxOut x).tickCnt = s.tickCnt := rfl
@[simp] theorem State.setRfTxOut_rfTxOut (x : Bool) : (s.setRfTxOut x).rfTxOut = x := rfl
@[simp] theorem State.setRfTxOut_irq (x : Bool) : (s.setRfTxOut x).irq = s.irq := rfl
@[simp] theorem State.setRfTxOut_readData (x : Bool) : (s.setRfTxOut x).readData = s.readData := rfl
@[simp] theorem State.setRfTxOut_inputs (x : Bool) : (s.setRfTxOut x).inputs = s.inputs := rfl
@[simp] theorem State.setRfTxOut_clock (x : Bool) : (s.setRfTxOut x).clock = s.clock := rfl

@[simp] theorem State.setIrq_ctrl (x : Bool) : (s.setIrq x).ctrl = s.ctrl := rfl
@[simp] theorem State.setIrq_fault (x : Bool) : (s.setIrq x).fault = s.fault := rfl
@[simp] theorem State.setIrq_timer (x : Bool) : (s.setIrq x).timer = s.timer := rfl
@[simp] theorem State.setIrq_prof (x : Bool) : (s.setIrq x).prof = s.prof := rfl
@[simp] theorem State.setIrq_profValid (x : Bool) : (s.setIrq x).profValid = s.profValid := rfl
@[simp] theorem State.setIrq_rx (x : Bool) : (s.setIrq x).rx = s.rx := rfl
@[simp] theorem State.setIrq_ctlValue (x : Bool) : (s.setIrq x).ctlValue = s.ctlValue := rfl
@[simp] theorem State.setIrq_ctlThresh (x : Bool) : (s.setIrq x).ctlThresh = s.ctlThresh := rfl
@[simp] theorem State.setIrq_ctl (x : Bool) : (s.setIrq x).ctl = s.ctl := rfl
@[simp] theorem State.setIrq_intent (x : Bool) : (s.setIrq x).intent = s.intent := rfl
@[simp] theorem State.setIrq_ctlSeq (x : Bool) : (s.setIrq x).ctlSeq = s.ctlSeq := rfl
@[simp] theorem State.setIrq_txDone (x : Bool) : (s.setIrq x).txDone = s.txDone := rfl
@[simp] theorem State.setIrq_tx (x : Bool) : (s.setIrq x).tx = s.tx := rfl
@[simp] theorem State.setIrq_dec (x : Bool) : (s.setIrq x).dec = s.dec := rfl
@[simp] theorem State.setIrq_sync (x : Bool) : (s.setIrq x).sync = s.sync := rfl
@[simp] theorem State.setIrq_tickCnt (x : Bool) : (s.setIrq x).tickCnt = s.tickCnt := rfl
@[simp] theorem State.setIrq_rfTxOut (x : Bool) : (s.setIrq x).rfTxOut = s.rfTxOut := rfl
@[simp] theorem State.setIrq_irq (x : Bool) : (s.setIrq x).irq = x := rfl
@[simp] theorem State.setIrq_readData (x : Bool) : (s.setIrq x).readData = s.readData := rfl
@[simp] theorem State.setIrq_inputs (x : Bool) : (s.setIrq x).inputs = s.inputs := rfl
@[simp] theorem State.setIrq_clock (x : Bool) : (s.setIrq x).clock = s.clock := rfl

@[simp] theorem State.setReadData_ctrl (x : Option Word) : (s.setReadData x).ctrl = s.ctrl := rfl
@[simp] theorem State.setReadData_fault (x : Option Word) : (s.setReadData x).fault = s.fault := rfl
@[simp] theorem State.setReadData_timer (x : Option Word) : (s.setReadData x).timer = s.timer := rfl
@[simp] theorem State.setReadData_prof (x : Option Word) : (s.setReadData x).prof = s.prof := rfl
@[simp] theorem State.setReadData_profValid (x : Option Word) : (s.setReadData x).profValid = s.profValid := rfl
@[simp] theorem State.setReadData_rx (x : Option Word) : (s.setReadData x).rx = s.rx := rfl
@[simp] theorem State.setReadData_ctlValue (x : Option Word) : (s.setReadData x).ctlValue = s.ctlValue := rfl
@[simp] theorem State.setReadData_ctlThresh (x : Option Word) : (s.setReadData x).ctlThresh = s.ctlThresh := rfl
@[simp] theorem State.setReadData_ctl (x : Option Word) : (s.setReadData x).ctl = s.ctl := rfl
@[simp] theorem State.setReadData_intent (x : Option Word) : (s.setReadData x).intent = s.intent := rfl
@[simp] theorem State.setReadData_ctlSeq (x : Option Word) : (s.setReadData x).ctlSeq = s.ctlSeq := rfl
@[simp] theorem State.setReadData_txDone (x : Option Word) : (s.setReadData x).txDone = s.txDone := rfl
@[simp] theorem State.setReadData_tx (x : Option Word) : (s.setReadData x).tx = s.tx := rfl
@[simp] theorem State.setReadData_dec (x : Option Word) : (s.setReadData x).dec = s.dec := rfl
@[simp] theorem State.setReadData_sync (x : Option Word) : (s.setReadData x).sync = s.sync := rfl
@[simp] theorem State.setReadData_tickCnt (x : Option Word) : (s.setReadData x).tickCnt = s.tickCnt := rfl
@[simp] theorem State.setReadData_rfTxOut (x : Option Word) : (s.setReadData x).rfTxOut = s.rfTxOut := rfl
@[simp] theorem State.setReadData_irq (x : Option Word) : (s.setReadData x).irq = s.irq := rfl
@[simp] theorem State.setReadData_readData (x : Option Word) : (s.setReadData x).readData = x := rfl
@[simp] theorem State.setReadData_inputs (x : Option Word) : (s.setReadData x).inputs = s.inputs := rfl
@[simp] theorem State.setReadData_clock (x : Option Word) : (s.setReadData x).clock = s.clock := rfl

@[simp] theorem State.setInputs_ctrl (x : List ClockIn) : (s.setInputs x).ctrl = s.ctrl := rfl
@[simp] theorem State.setInputs_fault (x : List ClockIn) : (s.setInputs x).fault = s.fault := rfl
@[simp] theorem State.setInputs_timer (x : List ClockIn) : (s.setInputs x).timer = s.timer := rfl
@[simp] theorem State.setInputs_prof (x : List ClockIn) : (s.setInputs x).prof = s.prof := rfl
@[simp] theorem State.setInputs_profValid (x : List ClockIn) : (s.setInputs x).profValid = s.profValid := rfl
@[simp] theorem State.setInputs_rx (x : List ClockIn) : (s.setInputs x).rx = s.rx := rfl
@[simp] theorem State.setInputs_ctlValue (x : List ClockIn) : (s.setInputs x).ctlValue = s.ctlValue := rfl
@[simp] theorem State.setInputs_ctlThresh (x : List ClockIn) : (s.setInputs x).ctlThresh = s.ctlThresh := rfl
@[simp] theorem State.setInputs_ctl (x : List ClockIn) : (s.setInputs x).ctl = s.ctl := rfl
@[simp] theorem State.setInputs_intent (x : List ClockIn) : (s.setInputs x).intent = s.intent := rfl
@[simp] theorem State.setInputs_ctlSeq (x : List ClockIn) : (s.setInputs x).ctlSeq = s.ctlSeq := rfl
@[simp] theorem State.setInputs_txDone (x : List ClockIn) : (s.setInputs x).txDone = s.txDone := rfl
@[simp] theorem State.setInputs_tx (x : List ClockIn) : (s.setInputs x).tx = s.tx := rfl
@[simp] theorem State.setInputs_dec (x : List ClockIn) : (s.setInputs x).dec = s.dec := rfl
@[simp] theorem State.setInputs_sync (x : List ClockIn) : (s.setInputs x).sync = s.sync := rfl
@[simp] theorem State.setInputs_tickCnt (x : List ClockIn) : (s.setInputs x).tickCnt = s.tickCnt := rfl
@[simp] theorem State.setInputs_rfTxOut (x : List ClockIn) : (s.setInputs x).rfTxOut = s.rfTxOut := rfl
@[simp] theorem State.setInputs_irq (x : List ClockIn) : (s.setInputs x).irq = s.irq := rfl
@[simp] theorem State.setInputs_readData (x : List ClockIn) : (s.setInputs x).readData = s.readData := rfl
@[simp] theorem State.setInputs_inputs (x : List ClockIn) : (s.setInputs x).inputs = x := rfl
@[simp] theorem State.setInputs_clock (x : List ClockIn) : (s.setInputs x).clock = s.clock := rfl

@[simp] theorem State.setClock_ctrl (x : Nat) : (s.setClock x).ctrl = s.ctrl := rfl
@[simp] theorem State.setClock_fault (x : Nat) : (s.setClock x).fault = s.fault := rfl
@[simp] theorem State.setClock_timer (x : Nat) : (s.setClock x).timer = s.timer := rfl
@[simp] theorem State.setClock_prof (x : Nat) : (s.setClock x).prof = s.prof := rfl
@[simp] theorem State.setClock_profValid (x : Nat) : (s.setClock x).profValid = s.profValid := rfl
@[simp] theorem State.setClock_rx (x : Nat) : (s.setClock x).rx = s.rx := rfl
@[simp] theorem State.setClock_ctlValue (x : Nat) : (s.setClock x).ctlValue = s.ctlValue := rfl
@[simp] theorem State.setClock_ctlThresh (x : Nat) : (s.setClock x).ctlThresh = s.ctlThresh := rfl
@[simp] theorem State.setClock_ctl (x : Nat) : (s.setClock x).ctl = s.ctl := rfl
@[simp] theorem State.setClock_intent (x : Nat) : (s.setClock x).intent = s.intent := rfl
@[simp] theorem State.setClock_ctlSeq (x : Nat) : (s.setClock x).ctlSeq = s.ctlSeq := rfl
@[simp] theorem State.setClock_txDone (x : Nat) : (s.setClock x).txDone = s.txDone := rfl
@[simp] theorem State.setClock_tx (x : Nat) : (s.setClock x).tx = s.tx := rfl
@[simp] theorem State.setClock_dec (x : Nat) : (s.setClock x).dec = s.dec := rfl
@[simp] theorem State.setClock_sync (x : Nat) : (s.setClock x).sync = s.sync := rfl
@[simp] theorem State.setClock_tickCnt (x : Nat) : (s.setClock x).tickCnt = s.tickCnt := rfl
@[simp] theorem State.setClock_rfTxOut (x : Nat) : (s.setClock x).rfTxOut = s.rfTxOut := rfl
@[simp] theorem State.setClock_irq (x : Nat) : (s.setClock x).irq = s.irq := rfl
@[simp] theorem State.setClock_readData (x : Nat) : (s.setClock x).readData = s.readData := rfl
@[simp] theorem State.setClock_inputs (x : Nat) : (s.setClock x).inputs = s.inputs := rfl
@[simp] theorem State.setClock_clock (x : Nat) : (s.setClock x).clock = x := rfl

end Sys2Proof.Machine
end

