-- ==== Sys2Proof/Laws/Ops.lean ====
section
/-! SUPPORT. What each shared operation of Machine/Ops.lean can do, said once. -/

namespace Sys2Proof.Machine

variable (s : State)

/-- Recording a fault: the first is kept, a later one sets OVERFLOW. -/
theorem raise_cases (code : FaultCode) (info addr : Word) :
    (s.fault.code = .none ∧
      s.raise code info addr = s.setFault { code := code, overflow := s.fault.overflow, info := info, addr := addr }) ∨
    (s.fault.code ≠ .none ∧ s.raise code info addr = s.setFault { s.fault with overflow := true }) := by
  unfold State.raise FaultRec.record
  split <;> simp_all

/-- Whatever a fault records, it writes nothing but the fault record. -/
theorem raise_eq_setFault (code : FaultCode) (info addr : Word) :
    s.raise code info addr = s.setFault (s.raise code info addr).fault := rfl

/-- After a fault of a real code, a fault is recorded. -/
theorem raise_code_ne_none (code : FaultCode) (info addr : Word) (h : code ≠ .none) :
    (s.raise code info addr).fault.code ≠ .none := by
  rcases raise_cases s code info addr with ⟨_, e⟩ | ⟨h', e⟩ <;> rw [e] <;> simpa

/-- A fault of a real code records a fault and writes nothing else. -/
theorem raise_records (code : FaultCode) (info addr : Word) (h : code ≠ .none) :
    s.raise code info addr = s.setFault (s.raise code info addr).fault ∧ (s.raise code info addr).fault.code ≠ .none :=
  ⟨raise_eq_setFault s code info addr, raise_code_ne_none s code info addr h⟩

/-- A command is blocked, or it runs. -/
theorem unlessBlocked_cases (run : State → State) :
    (s.fault.code ≠ .none ∧ s.unlessBlocked run = s.setFault { s.fault with overflow := true }) ∨
    (s.fault.code = .none ∧ s.unlessBlocked run = run s) := by
  unfold State.unlessBlocked State.faultPending
  by_cases h : s.fault.code = .none <;> simp [h]

/-- With no fault recorded, a command runs. -/
theorem unlessBlocked_run (run : State → State) (h : s.fault.code = .none) : s.unlessBlocked run = run s := by
  simp [State.unlessBlocked, State.faultPending, h]

/-- With a fault recorded, a command is blocked. -/
theorem unlessBlocked_blocked (run : State → State) (h : s.fault.code ≠ .none) :
    s.unlessBlocked run = s.setFault { s.fault with overflow := true } := by
  simp [State.unlessBlocked, State.faultPending, h]

/-- FAULT_CLEAR's operation writes nothing but the fault record. -/
theorem acknowledgeFault_eq : s.acknowledgeFault = s.setFault FaultRec.clear := rfl

/-- The offsets of the register map are found again. -/
theorem regAt_offset (r : RegName) : regAt r.offset = some r := by cases r <;> decide

/-- A register found at an offset has that offset. -/
theorem offset_of_regAt {off : Offset} {r : RegName} (h : regAt off = some r) : r.offset = off := by
  have := List.find?_some h
  simpa using this

/-- A read of a mapped register gives its word and leaves the state; any other read records BUS_ERROR and gives 0. -/
theorem busRead_cases (off : Offset) :
    (∃ r, regAt off = some r ∧ s.busRead off = (s, s.readReg r)) ∨
    (regAt off = none ∧ s.busRead off = (s.raise .busError 0 (readAddr off), 0)) := by
  unfold State.busRead
  cases h : regAt off <;> simp

/-- A CTRL write conflicts, would cut a transmission, or is stored. -/
theorem writeCtrl_cases (v : Word) :
    (v.getLsbD 0 = true ∧ v.getLsbD 1 = true ∧ s.writeCtrl v = s.raise .channelConflict v (writeAddr 0x04)) ∨
    (v.getLsbD 0 = false ∧ s.tx.busy = true ∧ s.writeCtrl v = s.raise .txBusy v (writeAddr 0x04)) ∨
    (¬ (v.getLsbD 0 = true ∧ v.getLsbD 1 = true) ∧ ¬ (v.getLsbD 0 = false ∧ s.tx.busy = true) ∧
      s.writeCtrl v = s.setCtrl (v &&& ctrlMask)) := by
  unfold State.writeCtrl
  cases v.getLsbD 0 <;> cases v.getLsbD 1 <;> cases s.tx.busy <;> simp

/-- A profile field write is out of range, or it is stored. -/
theorem writeField_cases (r : RegName) (hi : Nat) (v : Word) (store : State → State) :
    ((v.toNat < 1 ∨ hi < v.toNat) ∧ s.writeField r hi v store = s.raise .fieldRange v (writeAddr r.offset)) ∨
    ((1 ≤ v.toNat ∧ v.toNat ≤ hi) ∧ s.writeField r hi v store = store s) := by
  unfold State.writeField
  split
  · exact .inl ⟨by assumption, rfl⟩
  · exact .inr ⟨by omega, rfl⟩

end Sys2Proof.Machine
end

