-- ==== Sys2Proof/Laws/Engines.lean ====
section
/-! SUPPORT. What a tick of the transmit engine and of the receive decoder can do, and what the controller's operations do. -/

namespace Sys2Proof.Machine

variable (s : State)

/-- The preconditions of a transmission hold exactly when there is no refusal. -/
theorem txRefusal_none_iff : s.txRefusal = none ↔ s.tx.busy = false ∧ s.txEn = true ∧ s.profOk = true := by
  unfold State.txRefusal
  cases s.tx.busy <;> cases s.txEn <;> cases s.profOk <;> simp

/-- A refusal of a transmission names a fault. -/
theorem txRefusal_ne_none {c : FaultCode} (h : s.txRefusal = some c) : c ≠ .none := by
  unfold State.txRefusal at h
  split at h
  · cases h; decide
  · split at h
    · cases h; decide
    · split at h <;> cases h
      decide

/-- A refusal of a cycle names a fault. -/
theorem cycleRefusal_ne_none {c : FaultCode} (h : s.cycleRefusal = some c) : c ≠ .none := by
  unfold State.cycleRefusal at h
  split at h
  · cases h; decide
  · split at h
    · exact txRefusal_ne_none s h
    · cases h

/-- A tick of the transmit engine counts down, ends the transmission, or takes the next segment. -/
theorem txTick_cases (p : TxPort) :
    (p.engine.left ≠ 0 ∧ p.tick = { p with engine := { p.engine with left := p.engine.left - 1 } }) ∨
    (p.engine.left = 0 ∧ p.engine.seq[p.engine.pos]? = none ∧
      p.tick = { engine := { p.engine with busy := false, frames := p.engine.framesDone }, done := true, line := p.line }) ∨
    (∃ g, p.engine.left = 0 ∧ p.engine.seq[p.engine.pos]? = some g ∧
      p.tick =
        { engine := { p.engine with frames := p.engine.framesDone, pos := p.engine.pos + 1, left := g.ticks - 1 }
          done := p.done
          line := g.level }) := by
  unfold TxPort.tick
  by_cases h : p.engine.left = 0
  · cases hg : p.engine.seq[p.engine.pos]? with
    | none => exact .inr (.inl ⟨h, rfl, by simp [h, hg]⟩)
    | some g => exact .inr (.inr ⟨g, h, rfl, by simp [h, hg]⟩)
  · exact .inl ⟨h, by simp [h]⟩

/-- The engine's part of a clock is nothing, or a tick of a busy engine. -/
theorem txStage_cases (c : Bool) :
    (¬ (c = true ∧ s.tx.busy = true) ∧ s.txStage c = s) ∨
    (c = true ∧ s.tx.busy = true ∧ s.txStage c = s.setTxPort s.txPort.tick) := by
  unfold State.txStage
  cases c <;> cases s.tx.busy <;> simp [State.setTxPort, State.txPort, State.setTx, State.setTxDone, State.setRfTxOut]

/-- The engine's part of a clock leaves CTRL. -/
@[simp] theorem txStage_ctrl (c : Bool) : (s.txStage c).ctrl = s.ctrl := rfl
/-- The engine's part of a clock leaves TIMER. -/
@[simp] theorem txStage_timer (c : Bool) : (s.txStage c).timer = s.timer := rfl
/-- The engine's part of a clock leaves the tick divider. -/
@[simp] theorem txStage_tickCnt (c : Bool) : (s.txStage c).tickCnt = s.tickCnt := rfl
/-- The engine's part of a clock leaves the latch. -/
@[simp] theorem txStage_rx (c : Bool) : (s.txStage c).rx = s.rx := rfl
/-- The engine's part of a clock leaves the decoder. -/
@[simp] theorem txStage_dec (c : Bool) : (s.txStage c).dec = s.dec := rfl
/-- The engine's part of a clock leaves the synchroniser. -/
@[simp] theorem txStage_sync (c : Bool) : (s.txStage c).sync = s.sync := rfl

/-- A sample primes the decoder, lengthens the interval, is the first edge, or ends an interval. -/
theorem rxTick_cases (x : RxDecoder) (b : Bool) :
    (x.primed = false ∧ x.tick b = ({ x with level := b, dur := 0, primed := true }, none)) ∨
    (x.primed = true ∧ b = x.level ∧ x.tick b = ({ x with dur := satInc x.dur }, none)) ∨
    (x.primed = true ∧ b ≠ x.level ∧ x.seenEdge = false ∧
      x.tick b = ({ x with level := b, dur := 0, seenEdge := true }, none)) ∨
    (x.primed = true ∧ b ≠ x.level ∧ x.seenEdge = true ∧
      x.tick b = ({ x with level := b, dur := 0 }.endInterval x.level (satInc x.dur),
        x.closedFrame x.level (satInc x.dur))) := by
  unfold RxDecoder.tick
  cases x.primed <;> cases x.seenEdge <;> by_cases h : b = x.level <;> simp [h]

/-- The end of an interval is a gap, a frame interval kept, one dropped, or one before the first gap. -/
theorem endInterval_cases (x : RxDecoder) (lvl : Bool) (d : Dur) :
    (isGap lvl d = true ∧ x.endInterval lvl d = { x with gprev := d, haveRef := true, buf := [], ovf := false }) ∨
    (isGap lvl d = false ∧ x.haveRef = true ∧ x.buf.length < Config.rxBufMax ∧
      x.endInterval lvl d = { x with buf := x.buf ++ [d] }) ∨
    (isGap lvl d = false ∧ x.haveRef = true ∧ ¬ x.buf.length < Config.rxBufMax ∧
      x.endInterval lvl d = { x with ovf := true }) ∨
    (isGap lvl d = false ∧ x.haveRef = false ∧ x.endInterval lvl d = x) := by
  unfold RxDecoder.endInterval
  cases isGap lvl d <;> cases x.haveRef <;> by_cases h : x.buf.length < Config.rxBufMax <;> simp [h]

/-- The decoder's part of a clock is nothing, a sample without a frame, or a sample that latches one. -/
theorem rxStage_cases (c : Bool) :
    (¬ (c = true ∧ s.rxEn = true) ∧ s.rxStage c = s) ∨
    (c = true ∧ s.rxEn = true ∧ (s.dec.tick s.sync.stage2).2 = none ∧
      s.rxStage c = s.setDec (s.dec.tick s.sync.stage2).1) ∨
    (∃ r, c = true ∧ s.rxEn = true ∧ (s.dec.tick s.sync.stage2).2 = some r ∧
      s.rxStage c = (s.setDec (s.dec.tick s.sync.stage2).1).setRx (s.rx.latch r s.timer)) := by
  unfold State.rxStage
  by_cases h : c = true ∧ s.rxEn = true
  · obtain ⟨rfl, hx⟩ := h
    cases hr : (s.dec.tick s.sync.stage2).2 with
    | none => exact .inr (.inl ⟨rfl, hx, rfl, by simp [hx, hr, State.rxPort, RxPort.tick, State.setRxPort, State.setRx, State.setDec]⟩)
    | some r => exact .inr (.inr ⟨r, rfl, hx, rfl, by simp [hx, hr, State.rxPort, RxPort.tick, State.setRxPort]⟩)
  · refine .inl ⟨h, ?_⟩
    have : (c && s.rxEn) = false := by simpa using h
    rw [this]
    rfl

/-- The decoder's part of a clock leaves CTRL. -/
@[simp] theorem rxStage_ctrl (c : Bool) : (s.rxStage c).ctrl = s.ctrl := rfl
/-- The decoder's part of a clock leaves TIMER. -/
@[simp] theorem rxStage_timer (c : Bool) : (s.rxStage c).timer = s.timer := rfl
/-- The decoder's part of a clock leaves the tick divider. -/
@[simp] theorem rxStage_tickCnt (c : Bool) : (s.rxStage c).tickCnt = s.tickCnt := rfl
/-- The decoder's part of a clock leaves the transmit engine. -/
@[simp] theorem rxStage_tx (c : Bool) : (s.rxStage c).tx = s.tx := rfl
/-- The decoder's part of a clock leaves TX_DONE. -/
@[simp] theorem rxStage_txDone (c : Bool) : (s.rxStage c).txDone = s.txDone := rfl
/-- The decoder's part of a clock leaves the line. -/
@[simp] theorem rxStage_rfTxOut (c : Bool) : (s.rxStage c).rfTxOut = s.rfTxOut := rfl

/-- The decoder after its part of a clock. -/
theorem rxStage_dec (c : Bool) :
    (s.rxStage c).dec = if c && s.rxEn then (s.dec.tick s.sync.stage2).1 else s.dec := by
  unfold State.rxStage
  cases c && s.rxEn <;> rfl

/-- The latch after the decoder's part of a clock. -/
theorem rxStage_rx (c : Bool) :
    (s.rxStage c).rx =
      if c && s.rxEn then
        match (s.dec.tick s.sync.stage2).2 with
        | some r => s.rx.latch r s.timer
        | none => s.rx
      else s.rx := by
  unfold State.rxStage
  cases c && s.rxEn <;> rfl

/-- While RX_EN = 0 the decoder is put back into its initial state; else nothing happens. -/
theorem holdDecoder_cases :
    (s.rxEn = true ∧ s.holdDecoder = s) ∨ (s.rxEn = false ∧ s.holdDecoder = s.setDec RxDecoder.initial) := by
  unfold State.holdDecoder
  cases s.rxEn <;> simp [State.setDec]

/-- The completion of a controller command writes INTENT and CTL_SEQ only. -/
theorem complete_eq (l : List Intent) :
    s.complete l = (s.setIntent (intentMask l)).setCtlSeq (s.ctlSeq + 1) := rfl

/-- A CTL_MODE in OUTER is an ON transition, an OFF transition, or no change. -/
theorem modePoll_cases (m : Mode) :
    (m = .on ∧ s.ctl.prevMode ≠ .on ∧ s.modePoll m =
      (s.setCtl { s.ctl with prevThresh := none, loop := .active, prevMode := .on }).complete
        [.dispClear, .dispNormal, .notifyStartup]) ∨
    (m = .notOn ∧ s.ctl.prevMode ≠ .notOn ∧ s.modePoll m =
      (s.setCtl { s.ctl with actuatorActive := false, prevMode := .notOn }).complete
        [.dispClear, .dispSleep, .notifyOff]) ∨
    (((m = .on ∧ s.ctl.prevMode = .on) ∨ (m = .notOn ∧ s.ctl.prevMode = .notOn)) ∧ s.modePoll m = s.complete []) := by
  cases m <;> by_cases h : s.ctl.prevMode = .on <;> by_cases h' : s.ctl.prevMode = .notOn <;>
    simp_all [State.modePoll]

end Sys2Proof.Machine
end

