-- ==== Sys2Proof/Laws/PerInstr.lean ====
section
/-! SUPPORT. Statements made for every instruction, one lemma per constructor. -/

namespace Sys2Proof.Laws

/-- The family's statement: an instruction is well formed, and its word is a legal command word (30_encoding.md R93). -/
def EncodesLegalWord.Statement (i : Instr) : Prop := i.wellFormed = true ∧ wellFormedWord (encode i) = true

theorem EncodesLegalWord.nop : EncodesLegalWord.Statement .nop := by unfold EncodesLegalWord.Statement; decide
theorem EncodesLegalWord.txSend : EncodesLegalWord.Statement .txSend := by unfold EncodesLegalWord.Statement; decide
theorem EncodesLegalWord.txAck : EncodesLegalWord.Statement .txAck := by unfold EncodesLegalWord.Statement; decide
theorem EncodesLegalWord.profClear : EncodesLegalWord.Statement .profClear := by unfold EncodesLegalWord.Statement; decide
theorem EncodesLegalWord.rxAck : EncodesLegalWord.Statement .rxAck := by unfold EncodesLegalWord.Statement; decide
theorem EncodesLegalWord.rxCapture : EncodesLegalWord.Statement .rxCapture := by unfold EncodesLegalWord.Statement; decide
theorem EncodesLegalWord.ctlMode (m : Mode) : EncodesLegalWord.Statement (.ctlMode m) := by
  unfold EncodesLegalWord.Statement; cases m <;> decide
theorem EncodesLegalWord.ctlCycle (m : Mode) : EncodesLegalWord.Statement (.ctlCycle m) := by
  unfold EncodesLegalWord.Statement; cases m <;> decide
theorem EncodesLegalWord.faultClear : EncodesLegalWord.Statement .faultClear := by unfold EncodesLegalWord.Statement; decide

end Sys2Proof.Laws
end

