-- ==== Sys2Proof/Laws/Step.lean ====
section
/-! SUPPORT. What a command, an access and a step can do, said once each. -/

namespace Sys2Proof.Machine

variable (s : State)

/-- NOP. -/
theorem exec_nop : exec .nop s = .next s := rfl

/-- FAULT_CLEAR. -/
theorem exec_faultClear : exec .faultClear s = .next (s.setFault FaultRec.clear) := rfl

/-- TX_SEND with no fault recorded. -/
theorem exec_txSend (h : s.fault.code = .none) :
    exec .txSend s = .next (match s.txRefusal with | some c => s.raiseCmd c .txSend | none => s.txStart) := by
  refine congrArg Host.Outcome.next ((unlessBlocked_run s _ h).trans ?_)
  cases s.txRefusal <;> rfl

/-- RX_CAPTURE with no fault recorded. -/
theorem exec_rxCapture (h : s.fault.code = .none) :
    exec .rxCapture s = .next (if !s.rx.valid then s.raiseCmd .noRx .rxCapture
      else (s.setProf s.rx.candidate).setProfValid 0b11111#5) := by
  simp [exec, execRxCapture, unlessBlocked_run s _ h]

/-- CTL_MODE with no fault recorded. -/
theorem exec_ctlMode (m : Mode) (h : s.fault.code = .none) :
    exec (.ctlMode m) s = .next (match s.ctl.loop with | .active => s.raiseCmd .sequence (.ctlMode m) | .outer => s.modePoll m) := by
  refine congrArg Host.Outcome.next ((unlessBlocked_run s _ h).trans ?_)
  cases s.ctl.loop <;> rfl

/-- CTL_CYCLE with no fault recorded. -/
theorem exec_ctlCycle (m : Mode) (h : s.fault.code = .none) :
    exec (.ctlCycle m) s = .next (match s.cycleRefusal with | some c => s.raiseCmd c (.ctlCycle m) | none => s.cycle m) := by
  refine congrArg Host.Outcome.next ((unlessBlocked_run s _ h).trans ?_)
  cases s.cycleRefusal <;> rfl

/-- Everything a command can do: nothing, an acknowledged fault, a fault or a block recorded, or one command's own effect. -/
theorem exec_cases {i : Instr} {t : State} (h : exec i s = .next t) :
    t = s ∨ (i = .faultClear ∧ t = s.setFault FaultRec.clear) ∨ (t = s.setFault t.fault ∧ t.fault.code ≠ .none) ∨
    (s.fault.code = .none ∧
      ((i = .txSend ∧ s.txRefusal = none ∧ t = s.txStart) ∨
       (i = .txAck ∧ t = s.setTxDone false) ∨
       (i = .profClear ∧ t = (s.setProf Profile.cleared).setProfValid 0) ∨
       (i = .rxAck ∧ t = s.setRx { s.rx with valid := false, overrun := false }) ∨
       (i = .rxCapture ∧ s.rx.valid = true ∧ t = (s.setProf s.rx.candidate).setProfValid 0b11111#5) ∨
       (∃ m, i = .ctlMode m ∧ s.ctl.loop = .outer ∧ t = s.modePoll m) ∨
       (∃ m, i = .ctlCycle m ∧ s.cycleRefusal = none ∧ t = s.cycle m))) := by
  by_cases hf : s.fault.code = .none
  · cases i with
    | nop => cases h; exact .inl rfl
    | faultClear => cases h; exact .inr (.inl ⟨rfl, rfl⟩)
    | txSend =>
      rw [exec_txSend s hf] at h
      cases h
      cases hr : s.txRefusal with
      | some c => exact .inr (.inr (.inl (raise_records s c _ _ (txRefusal_ne_none s hr))))
      | none => exact .inr (.inr (.inr ⟨hf, .inl ⟨rfl, rfl, rfl⟩⟩))
    | txAck => simp [exec, execTxAck, unlessBlocked_run s _ hf] at h; subst h; simp [hf]
    | profClear => simp [exec, execProfClear, unlessBlocked_run s _ hf] at h; subst h; simp [hf]
    | rxAck => simp [exec, execRxAck, unlessBlocked_run s _ hf] at h; subst h; simp [hf]
    | rxCapture =>
      rw [exec_rxCapture s hf] at h
      cases h
      by_cases hv : s.rx.valid = true
      · simp [hf, hv]
      · refine .inr (.inr (.inl ?_))
        simp only [hv, Bool.not_false]
        exact raise_records s _ _ _ (by decide)
    | ctlMode m =>
      rw [exec_ctlMode s m hf] at h
      cases h
      cases hl : s.ctl.loop with
      | active => exact .inr (.inr (.inl (raise_records s _ _ _ (by decide))))
      | outer => simp [hf]
    | ctlCycle m =>
      rw [exec_ctlCycle s m hf] at h
      cases h
      cases hr : s.cycleRefusal with
      | some c => exact .inr (.inr (.inl (raise_records s c _ _ (cycleRefusal_ne_none s hr))))
      | none => simp [hf]
  · cases i with
    | nop => cases h; exact .inl rfl
    | faultClear => cases h; exact .inr (.inl ⟨rfl, rfl⟩)
    | _ =>
      right; right; left
      simp only [exec, execTxSend, execTxAck, execProfClear, execRxAck, execRxCapture, execCtlMode, execCtlCycle,
        unlessBlocked_blocked s _ hf, Host.Outcome.next.injEq] at h
      subst h
      exact ⟨rfl, hf⟩

/-- An illegal word leaves a fault recorded, and writes nothing but the fault record. -/
theorem illegalCmd_records (w : Word) :
    s.illegalCmd w = s.setFault (s.illegalCmd w).fault ∧ (s.illegalCmd w).fault.code ≠ .none := by
  unfold State.illegalCmd
  rcases unlessBlocked_cases s (fun s => s.raise .illegalCmd w cmdAddr) with ⟨hf, h⟩ | ⟨_, h⟩ <;> rw [h]
  · exact ⟨rfl, hf⟩
  · exact raise_records s _ _ _ (by decide)

/-- Everything an access can do: nothing, a fault or a block recorded, a register write, or a command. -/
theorem accessStage_cases {a : Access} {u : State} (h : accessStage a s = .next u) :
    u = s ∨ (u = s.setFault u.fault ∧ u.fault.code ≠ .none) ∨
    (∃ v, a = .write 0x04 v ∧ ¬ (v.getLsbD 0 = true ∧ v.getLsbD 1 = true) ∧
      ¬ (v.getLsbD 0 = false ∧ s.tx.busy = true) ∧ u = s.setCtrl (v &&& ctrlMask)) ∨
    (∃ w i, a = .write 0x0C w ∧ decode w = some i ∧ exec i s = .next u) ∨
    (∃ v, a = .write 0x20 v ∧ u = s.writeProfCode v) ∨
    (∃ v, a = .write 0x24 v ∧ (1 ≤ v.toNat ∧ v.toNat ≤ Config.nProto) ∧
      u = (s.setProf { s.prof with proto := v.setWidth 8 }).markProfSet 1) ∨
    (∃ v, a = .write 0x28 v ∧ (1 ≤ v.toNat ∧ v.toNat ≤ 65535) ∧
      u = (s.setProf { s.prof with pulse := v.setWidth 16 }).markProfSet 2) ∨
    (∃ v, a = .write 0x2C v ∧ (1 ≤ v.toNat ∧ v.toNat ≤ 32) ∧
      u = (s.setProf { s.prof with bits := v.setWidth 6 }).markProfSet 3) ∨
    (∃ v, a = .write 0x30 v ∧ (1 ≤ v.toNat ∧ v.toNat ≤ 255) ∧
      u = (s.setProf { s.prof with reps := v.setWidth 8 }).markProfSet 4) ∨
    (∃ v, a = .write 0x4C v ∧ u = s.setCtlValue v) ∨
    (∃ v, a = .write 0x50 v ∧ u = s.setCtlThresh v) := by
  have hraise : ∀ c x y, c ≠ .none → u = s.raise c x y → u = s.setFault u.fault ∧ u.fault.code ≠ .none :=
    fun c x y hc e => e ▸ raise_records s c x y hc
  cases a with
  | idle => cases h; exact .inl rfl
  | read off =>
    rcases busRead_cases s off with ⟨r, _, e⟩ | ⟨_, e⟩ <;> simp only [accessStage, e, Host.Outcome.next.injEq] at h
    · exact .inl h.symm
    · exact .inr (.inl (hraise _ _ _ (by decide) h.symm))
  | write off v =>
    simp only [accessStage, busWrite] at h
    cases hr : regAt off with
    | none =>
      simp only [hr, Host.Outcome.next.injEq] at h
      exact .inr (.inl (hraise _ _ _ (by decide) h.symm))
    | some r =>
      simp only [hr] at h
      have ho := offset_of_regAt hr
      subst ho
      cases r <;> simp only [writeReg] at h <;>
        (first
          | (simp only [Host.Outcome.next.injEq, State.writeError] at h; exact .inr (.inl (hraise _ _ _ (by decide) h.symm)))
          | skip)
      case ctrl =>
        simp only [Host.Outcome.next.injEq] at h
        rcases writeCtrl_cases s v with ⟨_, _, e⟩ | ⟨_, _, e⟩ | ⟨h1, h2, e⟩
        · exact .inr (.inl (hraise _ _ _ (by decide) (h.symm.trans e)))
        · exact .inr (.inl (hraise _ _ _ (by decide) (h.symm.trans e)))
        · exact .inr (.inr (.inl ⟨v, rfl, h1, h2, h.symm.trans e⟩))
      case cmd =>
        simp only [issue] at h
        cases hd : decode v with
        | none =>
          simp only [hd, Host.Outcome.next.injEq] at h
          subst h
          exact .inr (.inl (illegalCmd_records s v))
        | some i =>
          simp only [hd] at h
          exact .inr (.inr (.inr (.inl ⟨v, i, rfl, hd, h⟩)))
      case profCode => simp only [Host.Outcome.next.injEq] at h; subst h; simp [RegName.offset]
      case ctlValue => simp only [Host.Outcome.next.injEq] at h; subst h; simp [RegName.offset]
      case ctlThresh => simp only [Host.Outcome.next.injEq] at h; subst h; simp [RegName.offset]
      case profProto =>
        simp only [Host.Outcome.next.injEq] at h
        rcases writeField_cases s .profProto Config.nProto v _ with ⟨_, e⟩ | ⟨hr', e⟩ <;>
          have h := h.symm.trans e
        · exact .inr (.inl (hraise _ _ _ (by decide) h))
        · simp [RegName.offset, h, hr']
      case profPulse =>
        simp only [Host.Outcome.next.injEq] at h
        rcases writeField_cases s .profPulse 65535 v _ with ⟨_, e⟩ | ⟨hr', e⟩ <;>
          have h := h.symm.trans e
        · exact .inr (.inl (hraise _ _ _ (by decide) h))
        · simp [RegName.offset, h, hr']
      case profBits =>
        simp only [Host.Outcome.next.injEq] at h
        rcases writeField_cases s .profBits 32 v _ with ⟨_, e⟩ | ⟨hr', e⟩ <;>
          have h := h.symm.trans e
        · exact .inr (.inl (hraise _ _ _ (by decide) h))
        · simp [RegName.offset, h, hr']
      case profRepeat =>
        simp only [Host.Outcome.next.injEq] at h
        rcases writeField_cases s .profRepeat 255 v _ with ⟨_, e⟩ | ⟨hr', e⟩ <;>
          have h := h.symm.trans e
        · exact .inr (.inl (hraise _ _ _ (by decide) h))
        · simp [RegName.offset, h, hr']

/-- A step is a reset clock, or an access followed by the end of the clock. -/
theorem step_cases {t : State} (h : step s = .next t) :
    (s.nextInput.rstN = false ∧ t = s.resetClock s.nextInput.access) ∨
    (s.nextInput.rstN = true ∧ ∃ u, accessStage s.nextInput.access s = .next u ∧
      t = (u.setReadData (readDatum s.nextInput.access s)).endClock Config.tickDiv s.nextInput.rxIn) := by
  unfold step clockStep at h
  cases hr : s.nextInput.rstN with
  | false => simp [hr] at h; exact .inl ⟨rfl, h.symm⟩
  | true =>
    cases ha : accessStage s.nextInput.access s with
    | next u => simp [hr, ha] at h; exact .inr ⟨rfl, u, rfl, h.symm⟩
    | fault f => cases f
    | refused r => simp [hr, ha] at h

/-- A clock carries a tick exactly when the divider is at its end. -/
theorem carriesTick_iff (div : Nat) : s.carriesTick div = true ↔ s.tickCnt = div - 1 := by simp [State.carriesTick]

/-- The tick stage of a clock: the divider counts, or it returns to 0 and TIMER and the engines run. -/
theorem tickStage_cases (div : Nat) :
    (s.tickCnt ≠ div - 1 ∧ s.tickStage div = s.setTickCnt (s.tickCnt + 1)) ∨
    (s.tickCnt = div - 1 ∧
      s.tickStage div = (((s.setTickCnt 0).setTimer (s.timer + 1)).txStage true).rxStage true) := by
  cases h : s.carriesTick div with
  | false =>
    have ht : ∀ x : State, x.txStage false = x := fun x => by
      rcases txStage_cases x false with ⟨_, e⟩ | ⟨e, _⟩
      · exact e
      · cases e
    have hx : ∀ x : State, x.rxStage false = x := fun x => by
      rcases rxStage_cases x false with ⟨_, e⟩ | ⟨e, _⟩ | ⟨_, e, _⟩
      · exact e
      · cases e
      · cases e
    refine .inl ⟨fun e => by simp [State.carriesTick, e] at h, ?_⟩
    simp only [State.tickStage, h, ht, hx]
    rfl
  | true =>
    refine .inr ⟨(carriesTick_iff s div).1 h, ?_⟩
    simp only [State.tickStage, h, State.dividerStage, State.timerStage, if_true, State.setTickCnt_timer]

/-- A CTL_MODE writes the controller's registers only. -/
theorem modePoll_kept (m : Mode) : (s.modePoll m).ctrl = s.ctrl ∧ (s.modePoll m).fault = s.fault ∧
    (s.modePoll m).prof = s.prof ∧ (s.modePoll m).profValid = s.profValid ∧ (s.modePoll m).rx = s.rx ∧
    (s.modePoll m).tx = s.tx ∧ (s.modePoll m).rfTxOut = s.rfTxOut := by
  rcases modePoll_cases s m with ⟨_, _, h⟩ | ⟨_, _, h⟩ | ⟨_, h⟩ <;> rw [h] <;> simp [State.complete]

/-- A CTL_CYCLE writes the controller's registers and, when it toggles by itself, the transmit engine. -/
theorem cycle_kept (m : Mode) : (s.cycle m).ctrl = s.ctrl ∧ (s.cycle m).fault = s.fault ∧
    (s.cycle m).prof = s.prof ∧ (s.cycle m).profValid = s.profValid ∧ (s.cycle m).rx = s.rx ∧
    (s.cycle m).rfTxOut = s.rfTxOut := by
  unfold State.cycle
  simp only
  split <;> simp [State.complete, State.txStart]

/-- An access writes nothing of the time base, the line, the decoder, the synchroniser, `irq` or the model's own inputs. -/
theorem accessStage_kept {a : Access} {u : State} (h : accessStage a s = .next u) :
    u.timer = s.timer ∧ u.tickCnt = s.tickCnt ∧ u.rfTxOut = s.rfTxOut ∧ u.dec = s.dec ∧ u.sync = s.sync ∧
      u.irq = s.irq ∧ u.inputs = s.inputs ∧ u.clock = s.clock := by
  rcases accessStage_cases s h with rfl | ⟨e, _⟩ | ⟨v, _, _, _, rfl⟩ | ⟨w, i, _, _, h⟩ | ⟨v, _, rfl⟩ | ⟨v, _, _, rfl⟩ |
    ⟨v, _, _, rfl⟩ | ⟨v, _, _, rfl⟩ | ⟨v, _, _, rfl⟩ | ⟨v, _, rfl⟩ | ⟨v, _, rfl⟩
  case inr.inr.inr.inl =>
    rcases exec_cases s h with rfl | ⟨_, rfl⟩ | ⟨e, _⟩ | ⟨_, h⟩
    · simp
    · simp
    · rw [e]
      simp
    · rcases h with ⟨_, _, rfl⟩ | ⟨_, rfl⟩ | ⟨_, rfl⟩ | ⟨_, rfl⟩ | ⟨_, _, rfl⟩ | ⟨m, _, _, rfl⟩ | ⟨m, _, _, rfl⟩ <;>
        try simp [State.txStart]
      · rcases modePoll_cases s m with ⟨_, _, h⟩ | ⟨_, _, h⟩ | ⟨_, h⟩ <;> rw [h] <;> simp [State.complete]
      · unfold State.cycle
        simp only
        split <;> simp [State.complete, State.txStart]
  case inr.inl =>
    rw [e]
    simp
  all_goals simp [State.writeProfCode, State.markProfSet]

/-- The tick stage does not look at the schedule of inputs. -/
theorem tickStage_setInputs (div : Nat) (l : List ClockIn) :
    (s.setInputs l).tickStage div = (s.tickStage div).setInputs l := by
  rcases tickStage_cases s div with ⟨h, e⟩ | ⟨h, e⟩ <;>
    rcases tickStage_cases (s.setInputs l) div with ⟨h', e'⟩ | ⟨h', e'⟩ <;> rw [e, e'] <;>
      first | rfl | (exfalso; simp_all)

/-- The tick stage does not look at `bus_rdata`. -/
theorem tickStage_setReadData (div : Nat) (d : Option Word) :
    (s.setReadData d).tickStage div = (s.tickStage div).setReadData d := by
  rcases tickStage_cases s div with ⟨h, e⟩ | ⟨h, e⟩ <;>
    rcases tickStage_cases (s.setReadData d) div with ⟨h', e'⟩ | ⟨h', e'⟩ <;> rw [e, e'] <;>
      first | rfl | (exfalso; simp_all)

/-- What the end of a clock leaves alone: the host's registers, the fault record and the controller. -/
theorem endClock_kept (div : Nat) (rxIn : Bool) :
    (s.endClock div rxIn).ctrl = s.ctrl ∧ (s.endClock div rxIn).fault = s.fault ∧
    (s.endClock div rxIn).prof = s.prof ∧ (s.endClock div rxIn).profValid = s.profValid ∧
    (s.endClock div rxIn).ctl = s.ctl ∧ (s.endClock div rxIn).intent = s.intent ∧
    (s.endClock div rxIn).ctlSeq = s.ctlSeq := by
  rcases tickStage_cases s div with ⟨h, e⟩ | ⟨h, e⟩ <;>
    simp [State.endClock, e, State.holdDecoder, State.irqStage, State.syncStage, State.consumeInput, State.rxStage,
      State.txStage, State.setRxPort, State.setTxPort]

/-- The transmit engine's outputs after the end of a clock that carries a tick. -/
theorem endClock_tick_tx {div : Nat} (rxIn : Bool) (h : s.tickCnt = div - 1) :
    (s.endClock div rxIn).tx = (s.txStage true).tx ∧ (s.endClock div rxIn).txDone = (s.txStage true).txDone ∧
      (s.endClock div rxIn).rfTxOut = (s.txStage true).rfTxOut := by
  rcases tickStage_cases s div with ⟨h', _⟩ | ⟨_, e⟩
  · exact absurd h h'
  · simp only [State.endClock, e]
    exact ⟨rfl, rfl, rfl⟩

/-- The divider and TIMER after the end of a clock that carries a tick. -/
theorem endClock_tick_timer {div : Nat} (rxIn : Bool) (h : s.tickCnt = div - 1) :
    (s.endClock div rxIn).tickCnt = 0 ∧ (s.endClock div rxIn).timer = s.timer + 1 := by
  rcases tickStage_cases s div with ⟨h', _⟩ | ⟨_, e⟩
  · exact absurd h h'
  · simp [State.endClock, e, State.holdDecoder, State.irqStage, State.syncStage, State.consumeInput]

/-- The latch after the end of a clock that carries a tick: the decoder has taken one sample, at the TIMER already incremented. -/
theorem endClock_tick_rx {div : Nat} (rxIn : Bool) (h : s.tickCnt = div - 1) :
    (s.endClock div rxIn).rx =
      if s.rxEn then
        match (s.dec.tick s.sync.stage2).2 with
        | some r => s.rx.latch r (s.timer + 1)
        | none => s.rx
      else s.rx := by
  rcases tickStage_cases s div with ⟨h', _⟩ | ⟨_, e⟩
  · exact absurd h h'
  · simp [State.endClock, e, State.holdDecoder, State.irqStage, State.syncStage, State.consumeInput, rxStage_rx, State.rxEn] <;> rfl

/-- The decoder after the end of a clock that carries a tick: one sample taken, or held in its initial state. -/
theorem endClock_tick_dec {div : Nat} (rxIn : Bool) (h : s.tickCnt = div - 1) :
    (s.endClock div rxIn).dec = if s.rxEn then (s.dec.tick s.sync.stage2).1 else RxDecoder.initial := by
  rcases tickStage_cases s div with ⟨h', _⟩ | ⟨_, e⟩
  · exact absurd h h'
  · simp only [State.endClock, e, State.holdDecoder, State.irqStage, State.syncStage, State.consumeInput]
    simp [rxStage_dec, State.rxEn]
    split <;> rfl

/-- TICK_DIV is at least 1, whatever the open CLK_HZ is. -/
theorem tickDiv_pos : 0 < Config.tickDiv := Nat.succ_pos _

/-- The next input of a state given an access carries it. -/
@[simp] theorem withAccess_nextInput (a : Access) :
    (s.withAccess a).nextInput = { s.nextInput with rstN := true, access := a } := rfl

end Sys2Proof.Machine
end

