-- ==== Sys2Proof/Machine/Script.lean ====
section
/-! DEFINITION. The host script language (30_encoding.md R100, R101): from a line of text to statements, from statements to bus
accesses, and the host that runs them one access a clock. It is the host's side: no clock of the block depends on it. -/

namespace Sys2Proof.Machine

/-- A statement of a host script (30_encoding.md R100) or its WAIT loop (R101). A read may record an expected value. -/
inductive Stmt where
  | wr (r : RegName) (n : Word)
  | rd (r : RegName) (expected : Option Word)
  | command (i : Instr)
  | wait (r : RegName) (lo width : Nat) (n : Nat)
deriving DecidableEq, Repr

/-- The access a statement makes; WAIT polls its register once a turn (30_encoding.md R100, R101). -/
def Stmt.access (t : Stmt) : Access :=
  match t with
  | .wr r n => .write r.offset n
  | .rd r _ => .read r.offset
  | .command i => .write RegName.cmd.offset (encode i)
  | .wait r _ _ _ => .read r.offset

/-- Whether a statement is finished, given the datum its access read: only WAIT may have to repeat (30_encoding.md R101). -/
def Stmt.finished (t : Stmt) (datum : Option Word) : Bool :=
  match t with
  | .wait _ lo width n => ((datum.getD 0).toNat / 2 ^ lo) % 2 ^ width == n
  | .wr _ _ => true
  | .rd _ _ => true
  | .command _ => true

/-- One clock of the block with the host running a script: the script's next access goes on the bus, and WAIT stays until its
field holds the value; a script that has ended leaves the bus idle (30_encoding.md R101, 44_system.md R244). -/
def scriptStep (p : List Stmt) (s : State) : Host.Outcome (List Stmt × State) Fault Refusal :=
  match p with
  | [] =>
    match step (s.withAccess .idle) with
    | .next t => .next ([], t)
    | .fault f => .fault f
    | .refused r => .refused r
  | c :: rest =>
    match step (s.withAccess c.access) with
    | .next t => .next (if c.finished t.readData then rest else p, t)
    | .fault f => .fault f
    | .refused r => .refused r

/-- `LDPROF c, p, T, n, r` (30_encoding.md R101). -/
def ldprof (c p t n r : Word) : List Stmt :=
  [.wr .profCode c, .wr .profProto p, .wr .profPulse t, .wr .profBits n, .wr .profRepeat r]

/-- `SAMPLE v, t` (30_encoding.md R101). -/
def sample (v t : Word) : List Stmt := [.wr .ctlValue v, .wr .ctlThresh t]

/-- `CYCLE v, t, m` (30_encoding.md R101). -/
def cycleScript (v t : Word) (m : Mode) : List Stmt := sample v t ++ [.command (.ctlCycle m)]

/-- `TXW` (30_encoding.md R101). -/
def txw : List Stmt := [.command .txSend, .wait .status 0 1 0, .command .txAck]

/-- `RXWAIT` (30_encoding.md R101). -/
def rxwait : List Stmt := [.wait .status 2 1 1]

/-- The register names of 10_state.md R26, as a script spells them (30_encoding.md R100). -/
def RegName.name (r : RegName) : String :=
  match r with
  | .id => "ID" | .ctrl => "CTRL" | .status => "STATUS" | .cmd => "CMD"
  | .fault => "FAULT" | .faultInfo => "FAULT_INFO" | .faultAddr => "FAULT_ADDR" | .timer => "TIMER"
  | .profCode => "PROF_CODE" | .profProto => "PROF_PROTO" | .profPulse => "PROF_PULSE" | .profBits => "PROF_BITS"
  | .profRepeat => "PROF_REPEAT" | .profValid => "PROF_VALID" | .rxCode => "RX_CODE" | .rxProto => "RX_PROTO"
  | .rxPulse => "RX_PULSE" | .rxBits => "RX_BITS" | .rxTs => "RX_TS" | .ctlValue => "CTL_VALUE"
  | .ctlThresh => "CTL_THRESH" | .ctlPrevThresh => "CTL_PREV_THRESH" | .intent => "INTENT" | .ctlSeq => "CTL_SEQ"
  | .txFrames => "TX_FRAMES"

/-- The named fields of 10_state.md R28, R30, R32, R34 and R41: register, name, low bit, width (30_encoding.md R101). FAULT_ADDR's
bits 7:0 and 31 have no names there. -/
def fieldTable : List (RegName × String × Nat × Nat) :=
  [(.ctrl, "TX_EN", 0, 1), (.ctrl, "RX_EN", 1, 1), (.ctrl, "AUTO_TX", 2, 1), (.ctrl, "IE_TX_DONE", 8, 1),
   (.ctrl, "IE_RX_VALID", 9, 1), (.ctrl, "IE_FAULT", 10, 1)] ++
  [(.status, "TX_BUSY", 0, 1), (.status, "TX_DONE", 1, 1), (.status, "RX_VALID", 2, 1), (.status, "RX_OVERRUN", 3, 1),
   (.status, "FAULT_PENDING", 4, 1), (.status, "PROF_OK", 5, 1), (.status, "RX_EQ_PROF", 6, 1),
   (.status, "CTL_STATE", 8, 1), (.status, "ACTUATOR_ACTIVE", 9, 1), (.status, "PREV_MODE", 10, 2),
   (.status, "PREV_THRESH_SET", 12, 1), (.status, "LAST_CLASS", 13, 2), (.status, "IRQ", 16, 1)] ++
  [(.fault, "CODE", 0, 4), (.fault, "OVERFLOW", 8, 1), (.profValid, "CODE_SET", 0, 1), (.profValid, "PROTO_SET", 1, 1),
   (.profValid, "PULSE_SET", 2, 1), (.profValid, "BITS_SET", 3, 1), (.profValid, "REPEAT_SET", 4, 1)]

/-- A register by its name. -/
def regNamed (t : List Char) : Option RegName := allRegs.find? fun r => r.name.toList == t

/-- Split `REG.FIELD` at its first dot. -/
def splitDot : List Char → List Char × List Char
  | [] => ([], [])
  | c :: rest => if c = '.' then ([], rest) else (c :: (splitDot rest).1, (splitDot rest).2)

/-- A field of WAIT: register, low bit, width. -/
def fieldNamed (t : List Char) : Option (RegName × Nat × Nat) :=
  (fieldTable.find? fun e => e.1.name.toList == (splitDot t).1 && e.2.1.toList == (splitDot t).2).map
    fun e => (e.1, e.2.2.1, e.2.2.2)

/-- A digit of a base up to 16. -/
def digitOf (base : Nat) (c : Char) : Option Nat :=
  let n := c.toNat
  let d := if 48 ≤ n ∧ n ≤ 57 then some (n - 48)
    else if 65 ≤ n ∧ n ≤ 70 then some (n - 55)
    else if 97 ≤ n ∧ n ≤ 102 then some (n - 87)
    else none
  d.bind fun k => if k < base then some k else none

/-- Digits of a base, added to the value so far. -/
def digitsFrom (base : Nat) : List Char → Nat → Option Nat
  | [], acc => some acc
  | c :: rest, acc =>
    match digitOf base c with
    | some d => digitsFrom base rest (acc * base + d)
    | none => none

/-- A number with at least one digit. -/
def digits (base : Nat) (t : List Char) : Option Nat :=
  match t with
  | [] => none
  | _ :: _ => digitsFrom base t 0

/-- A number of a script: decimal, optionally negative, or `0x` hex (30_encoding.md R100). A magnitude that 32 bits do not hold is
refused (log 12). -/
def parseNumber (t : List Char) : Option Int :=
  match t with
  | '-' :: d => (digits 10 d).bind fun n => if n ≤ 2 ^ 31 then some (-(n : Int)) else none
  | '0' :: 'x' :: d => (digits 16 d).bind fun n => if n < 2 ^ 32 then some (n : Int) else none
  | d => (digits 10 d).bind fun n => if n < 2 ^ 32 then some (n : Int) else none

/-- A number as a 32-bit datum: a negative one is its two's complement (30_encoding.md R100). -/
def parseWord (t : List Char) : Option Word := (parseNumber t).map (BitVec.ofInt 32)

/-- A datum for a register: a negative number is spelt for CTL_VALUE and CTL_THRESH only (30_encoding.md R100; log 12). -/
def parseDatum (r : RegName) (t : List Char) : Option Word :=
  (parseNumber t).bind fun n =>
    if n < 0 ∧ r ≠ .ctlValue ∧ r ≠ .ctlThresh then none else some (BitVec.ofInt 32 n)

/-- A non-negative datum of a pseudo-instruction. -/
def parseField (t : List Char) : Option Word :=
  (parseNumber t).bind fun n => if n < 0 then none else some (BitVec.ofInt 32 n)

/-- A mode operand: ON, OFF, 1 or 0 (30_encoding.md R100). -/
def parseMode (t : List Char) : Option Mode :=
  if t = "ON".toList ∨ t = "1".toList then some .on
  else if t = "OFF".toList ∨ t = "0".toList then some .notOn
  else none

/-- What stands before a comment, and the comment after its `;` (30_encoding.md R100). -/
def splitComment : List Char → List Char × List Char
  | [] => ([], [])
  | c :: rest => if c = ';' then ([], rest) else (c :: (splitComment rest).1, (splitComment rest).2)

/-- The words of a line: separated by blanks and commas, the word being read first (log 12). -/
def wordsFrom : List Char → List Char → List (List Char)
  | [], w => if w = [] then [] else [w]
  | c :: rest, w =>
    if c = ' ' ∨ c = ',' ∨ c = '\t' ∨ c = '\r' then
      if w = [] then wordsFrom rest [] else w :: wordsFrom rest []
    else wordsFrom rest (w ++ [c])

/-- The words of a text. -/
def wordsOf (t : List Char) : List (List Char) := wordsFrom t []

/-- The expected value a read's comment records: `; = n` (30_encoding.md R100). DESIGN CHOICE, safe (log 12): a negative `n` is its
32-bit two's complement for every register, though the spec gives a negative number a meaning for CTL_VALUE and CTL_THRESH only; a
comment of another form records nothing. No access and no step depends on an expected value. -/
def expectedOf (comment : List Char) : Option Word :=
  match wordsOf comment with
  | ['='] :: n :: _ => parseWord n
  | _ => none

/-- The commands without an operand, as a script spells them (30_encoding.md R100). -/
def plainCommands : List (String × Instr) :=
  [("NOP", .nop), ("TX_SEND", .txSend), ("TX_ACK", .txAck), ("PROF_CLEAR", .profClear), ("RX_ACK", .rxAck),
   ("RX_CAPTURE", .rxCapture), ("FAULT_CLEAR", .faultClear)]

/-- A statement without operands: a command, TXW or RXWAIT (30_encoding.md R100, R101). -/
def assemble0 (op : List Char) : Option (List Stmt) :=
  if op = "TXW".toList then some txw
  else if op = "RXWAIT".toList then some rxwait
  else (plainCommands.find? fun e => e.1.toList == op).map fun e => [.command e.2]

/-- A statement with one operand: RD, CTL_MODE or CTL_CYCLE (30_encoding.md R100). -/
def assemble1 (op a : List Char) (comment : List Char) : Option (List Stmt) :=
  if op = "RD".toList then (regNamed a).map fun r => [.rd r (expectedOf comment)]
  else if op = "CTL_MODE".toList then (parseMode a).map fun m => [.command (.ctlMode m)]
  else if op = "CTL_CYCLE".toList then (parseMode a).map fun m => [.command (.ctlCycle m)]
  else none

/-- A statement with two operands: WR or SAMPLE (30_encoding.md R100, R101). -/
def assemble2 (op a b : List Char) : Option (List Stmt) :=
  if op = "WR".toList then (regNamed a).bind fun r => (parseDatum r b).map fun n => [.wr r n]
  else if op = "SAMPLE".toList then (parseWord a).bind fun v => (parseWord b).map fun t => sample v t
  else none

/-- A statement with three operands: CYCLE, or WAIT, whose `==` stands between its operands (30_encoding.md R101). -/
def assemble3 (op a b c : List Char) : Option (List Stmt) :=
  if op = "CYCLE".toList then
    (parseWord a).bind fun v => (parseWord b).bind fun t => (parseMode c).map fun m => cycleScript v t m
  else if op = "WAIT".toList ∧ b = "==".toList then
    (fieldNamed a).bind fun f => (parseField c).map fun n => [.wait f.1 f.2.1 f.2.2 n.toNat]
  else none

/-- A statement with five operands: LDPROF (30_encoding.md R101). -/
def assemble5 (op a b c d e : List Char) : Option (List Stmt) :=
  if op = "LDPROF".toList then
    (parseField a).bind fun code => (parseField b).bind fun p => (parseField c).bind fun t =>
      (parseField d).bind fun n => (parseField e).map fun r => ldprof code p t n r
  else none

/-- The statements of a line; `none` where the assembler refuses it: an unknown mnemonic, an operand too many, an operand missing
(30_encoding.md R100). A line with nothing but a comment has no statement. -/
def assembleLine (line : List Char) : Option (List Stmt) :=
  match wordsOf (splitComment line).1 with
  | [] => some []
  | [op] => assemble0 op
  | [op, a] => assemble1 op a (splitComment line).2
  | [op, a, b] => assemble2 op a b
  | [op, a, b, c] => assemble3 op a b c
  | [op, a, b, c, d, e] => assemble5 op a b c d e
  | _ => none

/-- The statements of a script, one line after another (30_encoding.md R100). -/
def assemble : List (List Char) → Option (List Stmt)
  | [] => some []
  | line :: rest => (assembleLine line).bind fun a => (assemble rest).map fun b => a ++ b

end Sys2Proof.Machine
end

