-- ==== Sys2Proof/Tests/Slice0.lean ====
section
/-! SUPPORT. Small tests, their expected values taken from 30_encoding.md R94 and 95_test_vectors.md; and for each statement of the
Obligations file that has hypotheses, a concrete state and operands that meet them together. -/

namespace Sys2Proof.Tests

open Sys2Proof.Machine Sys2Proof.Safety

/-- A field of the next state, if there is one. -/
def nextField {α : Type} (r : Result) (f : State → α) : Option α :=
  match r with
  | .next t => some (f t)
  | .fault _ => none
  | .refused _ => none

/-! ### Well-formed words: an ill-formed word for each check (30_encoding.md R91, R93) -/

theorem test_wf_refuses_reserved_bit : ({ op := 0x11, m := false, res := 1 } : Cmd32).resOk = false ∧
    ({ op := 0x11, m := false, res := 1 } : Cmd32).wellFormed = false := by decide
theorem test_wf_refuses_unassigned_op : ({ op := 0x04, m := false, res := 0 } : Cmd32).opOk = false ∧
    ({ op := 0x04, m := false, res := 0 } : Cmd32).wellFormed = false := by decide
theorem test_wf_refuses_mode_bit : ({ op := 0x01, m := true, res := 0 } : Cmd32).modeOk = false ∧
    ({ op := 0x01, m := true, res := 0 } : Cmd32).wellFormed = false := by decide
theorem test_wf_accepts_cycle_on : ({ op := 0x11, m := true, res := 0 } : Cmd32).wellFormed = true := by decide

/-! ### Decoding: the words of 30_encoding.md R94, and the illegal words of 95_test_vectors.md section 2.1 -/

theorem test_decode_nop : decode 0b00000000000000000000000_0_00000000 = some .nop := by decide
theorem test_decode_txSend : decode 0b00000000000000000000000_0_00000001 = some .txSend := by decide
theorem test_decode_txAck : decode 0b00000000000000000000000_0_00000010 = some .txAck := by decide
theorem test_decode_profClear : decode 0b00000000000000000000000_0_00000011 = some .profClear := by decide
theorem test_decode_rxAck : decode 0b00000000000000000000000_0_00001000 = some .rxAck := by decide
theorem test_decode_rxCapture : decode 0b00000000000000000000000_0_00001001 = some .rxCapture := by decide
theorem test_decode_ctlMode_off : decode 0b00000000000000000000000_0_00010000 = some (.ctlMode .notOn) := by decide
theorem test_decode_ctlMode_on : decode 0b00000000000000000000000_1_00010000 = some (.ctlMode .on) := by decide
theorem test_decode_ctlCycle_off : decode 0b00000000000000000000000_0_00010001 = some (.ctlCycle .notOn) := by decide
theorem test_decode_ctlCycle_on : decode 0b00000000000000000000000_1_00010001 = some (.ctlCycle .on) := by decide
theorem test_decode_faultClear : decode 0b00000000000000000000000_0_00100000 = some .faultClear := by decide
theorem test_decode_illegal : ([0x00000100, 0x00000101, 0x00000004, 0x00000021, 0x000000FF, 0x00000200, 0x80000011,
    0x00000320] : List Word).all (fun w => decode w == none) = true := by decide
theorem test_decodeTableWord_row : decodeTableWord 32 0x111 = some (.ctlCycle .on) := by decide

/-! ### States of the tests -/

/-- Reset, with a fault recorded (95_test_vectors.md section 2.6, last rows). -/
def faultyState : State := State.reset.setFault { code := .txBusy, overflow := false, info := 1, addr := 0x8000000C }

/-- The profile `(5, 1, 1, 3, 1)` of 95_test_vectors.md section 2.2. -/
def smallProfile : Profile := { code := 5, proto := 1, pulse := 1, bits := 3, reps := 1 }

/-- Transmit enabled, with the small profile. -/
def sendState : State := ((State.reset.setCtrl 1).setProf smallProfile).setProfValid 0b11111

/-- A transmission of the small profile just started. -/
def busyState : State := sendState.setTx (startedEngine smallProfile)

/-- The latch `(101, 1, 320)` of 95_test_vectors.md section 2.5. -/
def latchedState : State :=
  State.reset.setRx { valid := true, overrun := false, code := 101, proto := 1, pulse := 320, bits := 24, ts := 7 }

/-- ACTIVE, with a sample and a threshold. -/
def activeState (active : Bool) (prev : Option Word) (v t : Word) : State :=
  ((State.reset.setCtl { loop := .active, prevMode := .on, actuatorActive := active, prevThresh := prev, lastClass := .none }
    ).setCtlValue v).setCtlThresh t

/-- ACTIVE with AUTO_TX and TX_EN, a legal profile, and a BAD sample. -/
def autoState : State :=
  ((((activeState false none 60 50).setCtrl 5).setProf smallProfile).setProfValid 0b11111)

/-- The intervals of the reference frame of 95_test_vectors.md section 2.4. -/
def referenceFrame : List Nat := [1050, 350, 350, 1050, 1050, 350, 350]

/-- A decoder one tick before the rising edge that ends the closing gap of the reference frame. -/
def gapDecoder : RxDecoder :=
  { primed := true, level := false, seenEdge := true, dur := 10849, haveRef := true, gprev := 10850
    buf := [1050, 350, 350, 1050, 1050, 350, 350], ovf := false }

/-- Receive enabled, the decoder at that tick, the synchronised line high. -/
def gapState : State :=
  ((State.reset.setCtrl 2).setDec gapDecoder).setSync { stage1 := true, stage2 := true }

/-- A clock's inputs. -/
def clockOf (a : Access) : ClockIn := { rstN := true, access := a, rxIn := false }

/-- The clock of that tick, with an RX_ACK on the bus. -/
def gapAckState : State := (gapState.setTickCnt (Config.tickDiv - 1)).setInputs [clockOf (.write 0x0C 0x00000008)]

/-! ### The commands, at the vectors of 95_test_vectors.md sections 2.1 and 2.5 to 2.7 -/

theorem test_nop_not_blocked : nextField (exec .nop faultyState) State.fault = some faultyState.fault := by decide
theorem test_txSend_faults_disabled_first : nextField (exec .txSend State.reset) State.fault =
    some { code := .txDisabled, overflow := false, info := 1, addr := 0x8000000C } := by decide
theorem test_txSend_starts : nextField (exec .txSend sendState) (fun s => (s.tx.busy, s.tx.pos, s.tx.seq.length)) =
    some (true, 0, 8) := by decide
theorem test_txAck_clears_done : nextField (exec .txAck (State.reset.setTxDone true)) State.txDone = some false := by decide
theorem test_profClear_unsets : nextField (exec .profClear sendState) (fun s => (s.profValid, s.prof.code, s.prof.reps)) =
    some (0, 0, 0) := by decide
theorem test_rxAck_keeps_registers : nextField (exec .rxAck latchedState) (fun s => (s.rx.valid, s.rx.code)) =
    some (false, 101) := by decide
theorem test_rxAck_blocked : nextField (exec .rxAck faultyState) (fun s => s.faultWord) = some 0x104 := by decide
theorem test_rxCapture_constants : nextField (exec .rxCapture latchedState) State.prof =
    some { code := 101, proto := 1, pulse := 320, bits := 24, reps := 10 } := by decide
theorem test_rxCapture_noRx : nextField (exec .rxCapture State.reset) State.fault =
    some { code := .noRx, overflow := false, info := 9, addr := 0x8000000C } := by decide
theorem test_ctlMode_on_enters : nextField (exec (.ctlMode .on) State.reset) (fun s => (s.intent, s.ctl.loop, s.ctlSeq)) =
    some (0x0000B, .active, 1) := by decide
theorem test_ctlMode_off_clears_flag :
    nextField (exec (.ctlMode .notOn) (State.reset.setCtl { State.reset.ctl with prevMode := .on, actuatorActive := true }))
      (fun s => (s.intent, s.ctl.actuatorActive, s.ctl.prevMode)) = some (0x00015, false, .notOn) := by decide
theorem test_ctlCycle_danger_keeps_flag :
    nextField (exec (.ctlCycle .on) (activeState true (some 50) 110 120)) (fun s => (s.intent, s.ctl.actuatorActive)) =
      some (0x3E020, true) := by decide
theorem test_ctlCycle_off_exits :
    nextField (exec (.ctlCycle .notOn) (activeState false (some 50) 40 50)) (fun s => (s.intent, s.ctl.loop, s.ctl.prevMode)) =
      some (0x000E0, .outer, .on) := by decide
theorem test_faultClear_clears_overflow :
    nextField (exec .faultClear (State.reset.setFault { code := .txBusy, overflow := true, info := 1, addr := 2 })) State.fault =
      some { code := .none, overflow := false, info := 0, addr := 0 } := by decide

/-! ### The engines, the controller and the accesses, at vectors of 95_test_vectors.md -/

theorem test_protoTable_has_every_protocol : Config.protoTable.length = Config.nProto := by decide
/-- Section 2.2, the smallest full waveform. -/
theorem test_waveform_small : waveform smallProfile.segments =
    [true, true, true, false, true, false, false, false, true, true, true, false, true] ++ List.replicate 31 false := by decide
/-- Section 2.2: the burst of `(101, 1, 320, 24, 10)`. -/
theorem test_frame_length : ({ code := 101, proto := 1, pulse := 320, bits := 24, reps := 10 } : Profile).frameTicks = 40960 := by
  decide
/-- Section 2.4, the reference frame, the gap boundary, a fall to protocol 5, and the rejected zero code. -/
theorem test_rxDecode_reference : rxDecode referenceFrame 10850 11049 =
    some { code := 5, proto := 1, pulse := 350, bits := 3 } := by decide
theorem test_rxDecode_gap_mismatch : rxDecode referenceFrame 10850 11050 = none := by decide
theorem test_rxDecode_falls_to_protocol_5 : rxDecode [1050, 350, 630, 1050, 1050, 350, 350] 10850 10850 =
    some { code := 5, proto := 5, pulse := 775, bits := 3 } := by decide
theorem test_rxDecode_zero_code : rxDecode [350, 1050, 350, 1050, 350, 1050, 350, 1050, 350] 10850 10850 =
    some { code := 15, proto := 6, pulse := 1085, bits := 4 } := by decide
/-- Section 2.7, classification corner cases. -/
theorem test_classify_corners :
    classify 101 101 = .danger ∧ classify 100 120 = .ok ∧ classify 150 50 = .bad ∧
      classify (0xFFFFFFFF : Word).toInt 0 = .ok ∧ classify 0 (0xFFFFFFFF : Word).toInt = .bad := by decide
/-- Section 1.7: three toggles. -/
theorem test_hysteresis_scenario : (cycleRun [60, 60, 40, 60] (activeState false none 0 50)).2 = 3 := by decide
/-- Section 2.6: FAULT_ADDR of a write and of a read; the ID register, byte 0 lowest (20_memory.md R74). -/
theorem test_write_misaligned : nextField (busWrite 0x21 5 State.reset) State.fault =
    some { code := .busError, overflow := false, info := 5, addr := 0x80000021 } := by decide
theorem test_read_unmapped : (State.reset.busRead 0x64).1.fault =
    { code := .busError, overflow := false, info := 0, addr := 0x00000064 } := by decide
theorem test_ctrl_reserved_bits : nextField (busWrite 0x04 0xFFFFFFF8 State.reset) State.ctrl = some 0x00000700 := by decide
theorem test_id_bytes : (State.reset.busRead 0x00).2 = 0x41514D43 ∧ State.reset.regByte .id 0 = 0x43 := by decide
/-- 10_state.md R32 and 60_exceptions.md R260: FAULT with CODE 9 and OVERFLOW; R49: CTL_PREV_THRESH while unset. -/
theorem test_fault_word : ((State.reset.setFault { code := .fieldRange, overflow := true, info := 7, addr := 0x80000024 }).busRead
    0x10).2 = 0x00000109 ∧ (State.reset.busRead 0x54).2 = 0 := by decide
/-- Section 2.4: a zero high off by 279 is within the tolerance of 280, one off by 280 is not. -/
theorem test_tolerance_is_strict : tolerance 350 = 280 ∧ decodeBit (timing 1) 350 280 629 1050 = some false ∧
    decodeBit (timing 1) 350 280 630 1050 = none := by decide
/-- Section 1.3: a profile loaded by a script's LDPROF. -/
theorem test_assemble_ldprof : assembleLine "LDPROF 101, 1, 320, 24, 10".toList = some (ldprof 101 1 320 24 10) := by decide
/-- Section 2.9 with TICK_DIV = 1: each clock carries a tick. -/
theorem test_clock_ticks : nextField (clockStep 1 (clockOf .idle) State.reset) State.timer = some 1 := by decide
theorem test_clock_starts_segment : nextField (clockStep 1 (clockOf (.write 0x0C 1)) sendState) State.rfTxOut = some true := by
  decide
theorem test_reset_runs_word : nextField (step (State.reset.withFetchWord 32 0x110)) (fun s => s.ctl.loop) = some .active := by
  decide

/-! ### The hypotheses of the statements are met -/

theorem test_meets_DecodeOfEncode : (Instr.ctlCycle .on).wellFormed = true := by decide
theorem test_meets_IllegalCommandFaults :
    (0x80000011 : Word).extractLsb' 9 23 ≠ 0 ∧
    (0x00000021 : Word).extractLsb' 0 8 ∉ ([0x00, 0x01, 0x02, 0x03, 0x08, 0x09, 0x10, 0x11, 0x20] : List (BitVec 8)) ∧
    ((0x00000100 : Word).getLsbD 8 = true ∧ (0x00000100 : Word).extractLsb' 0 8 ≠ 0x10 ∧
      (0x00000100 : Word).extractLsb' 0 8 ≠ 0x11) ∧
    State.reset.fault.code = .none ∧ faultyState.fault.code ≠ .none := by decide
theorem test_meets_StepRunsCommand :
    (State.reset.setInputs [clockOf (.write 0x0C 2)]).nextInput.rstN = true ∧
    (State.reset.setInputs [clockOf (.write 0x0C 2)]).nextInput.access = .write 0x0C 2 ∧ decode 2 = some .txAck ∧
    exec .txAck (State.reset.setInputs [clockOf (.write 0x0C 2)]) =
      .next (State.reset.setInputs [clockOf (.write 0x0C 2)]) := ⟨rfl, rfl, by decide, rfl⟩
/-- The other accesses: an empty schedule is an idle bus, a read of an unmapped offset, a refused write. -/
theorem test_meets_StepRunsCommand_accesses :
    (State.reset.nextInput.rstN = true ∧ State.reset.nextInput.access = .idle) ∧
    ((State.reset.withAccess (.read 0x64)).nextInput.rstN = true ∧
      (State.reset.withAccess (.read 0x64)).nextInput.access = .read 0x64) ∧
    ((State.reset.withAccess (.write 0x60 1)).nextInput.rstN = true ∧
      (State.reset.withAccess (.write 0x60 1)).nextInput.access = .write 0x60 1 ∧
      ∃ t, busWrite 0x60 1 (State.reset.withAccess (.write 0x60 1)) = .next t) :=
  ⟨⟨rfl, rfl⟩, ⟨rfl, rfl⟩, rfl, rfl, _, rfl⟩
/-- No fault recorded: TxAckResult, ProfClearResult, FirstFaultKept. -/
theorem test_meets_no_fault : State.reset.fault.code = .none := by decide
/-- A fault recorded: CommandsBlockedByFault, FirstFaultKept. -/
theorem test_meets_CommandsBlockedByFault : faultyState.fault.code ≠ .none ∧ Instr.rxAck ≠ .nop ∧ Instr.rxAck ≠ .faultClear := by
  decide
theorem test_meets_RxAckResult : latchedState.fault.code = .none ∧ latchedState.rx.valid = true := by decide
theorem test_meets_RxCaptureResult : latchedState.fault.code = .none ∧ latchedState.rx.valid = true ∧
    State.reset.fault.code = .none ∧ State.reset.rx.valid = false := by decide
theorem test_meets_TxSendStarts : sendState.fault.code = .none ∧ sendState.tx.busy = false ∧ sendState.ctrl.getLsbD 0 = true ∧
    sendState.profValid = 0b11111 ∧ (sendState.prof.bits = 32 ∨ sendState.prof.code.toNat < 2 ^ sendState.prof.bits.toNat) := by
  decide
theorem test_meets_TxSendStarts_full_width :
    ((0xFFFFFFFF : Word), (32 : BitVec 6)) = ((sendState.setProf { smallProfile with code := 0xFFFFFFFF, bits := 32 }).prof.code,
      (sendState.setProf { smallProfile with code := 0xFFFFFFFF, bits := 32 }).prof.bits) := by decide
theorem test_meets_TxSendRefused :
    (busyState.fault.code = .none ∧ busyState.tx.busy = true) ∧
    (State.reset.fault.code = .none ∧ State.reset.tx.busy = false ∧ State.reset.ctrl.getLsbD 0 = false) ∧
    ((State.reset.setCtrl 1).fault.code = .none ∧ (State.reset.setCtrl 1).tx.busy = false ∧
      (State.reset.setCtrl 1).ctrl.getLsbD 0 = true ∧ (State.reset.setCtrl 1).profOk = false) := by decide
theorem test_meets_CtlModeResult : State.reset.fault.code = .none ∧ State.reset.ctl.loop = .outer ∧
    State.reset.ctl.prevMode = .empty := by decide
theorem test_meets_CtlModeInActiveFaults :
    (activeState true none 60 50).fault.code = .none ∧ (activeState true none 60 50).ctl.loop = .active := by decide
theorem test_meets_CtlCycleResult :
    ((activeState false none 60 50).fault.code = .none ∧ (activeState false none 60 50).ctl.loop = .active ∧
      (activeState false none 60 50).ctrl.getLsbD 2 = false) ∧
    (((activeState true none 60 50).setCtrl 4).fault.code = .none ∧ ((activeState true none 60 50).setCtrl 4).ctl.loop = .active ∧
      ¬ EdgeDue ((activeState true none 60 50).setCtrl 4)) := by unfold EdgeDue; decide
theorem test_meets_CtlCycleAutoToggle :
    autoState.fault.code = .none ∧ autoState.ctl.loop = .active ∧ autoState.ctrl.getLsbD 2 = true ∧ EdgeDue autoState ∧
    autoState.tx.busy = false ∧ autoState.ctrl.getLsbD 0 = true ∧ autoState.profOk = true := by unfold EdgeDue; decide
theorem test_meets_CtlCycleRefused_outer : State.reset.fault.code = .none ∧ State.reset.ctl.loop = .outer := by decide
theorem test_meets_CtlCycleRefused_busy :
    ∀ s ∈ [autoState.setTx (startedEngine smallProfile)], s.fault.code = .none ∧ s.ctl.loop = .active ∧
      s.ctrl.getLsbD 2 = true ∧ EdgeDue s ∧ s.tx.busy = true := by unfold EdgeDue; decide
theorem test_meets_CtlCycleRefused_disabled :
    ∀ s ∈ [autoState.setCtrl 4], s.fault.code = .none ∧ s.ctl.loop = .active ∧
      s.ctrl.getLsbD 2 = true ∧ EdgeDue s ∧ s.tx.busy = false ∧ s.ctrl.getLsbD 0 = false := by unfold EdgeDue; decide
theorem test_meets_CtlCycleRefused_invalid :
    ∀ s ∈ [autoState.setProfValid 0b01111], s.fault.code = .none ∧ s.ctl.loop = .active ∧
      s.ctrl.getLsbD 2 = true ∧ EdgeDue s ∧ s.tx.busy = false ∧ s.ctrl.getLsbD 0 = true ∧ s.profOk = false := by
  unfold EdgeDue; decide
theorem test_meets_FaultsArePrecise : exec .txSend State.reset = .next (faulted State.reset .txDisabled 1 0x8000000C) ∧
    (faulted State.reset .txDisabled 1 0x8000000C).fault ≠ State.reset.fault := ⟨rfl, by decide⟩
theorem test_meets_ReadsOfTheRegisterSpace : (0x61 : Offset).toNat % 4 ≠ 0 ∧ 0x64 ≤ (0x64 : Offset).toNat ∧
    RegName.txFrames.offset = (0x60 : Offset) ∧ (0x60 : Offset).toNat % 4 = 0 ∧ (0x60 : Offset).toNat < 0x64 := by decide
theorem test_meets_StatusFields : (0x00000020 : Word) = (sendState.busRead 0x08).2 := by decide
theorem test_meets_RefusedWrites : (0x05 : Offset).toNat % 4 ≠ 0 ∧ 0x64 ≤ (0x64 : Offset).toNat ∧
    (0x60 : Offset) ∈ ([0x00, 0x08, 0x10, 0x14, 0x18, 0x1C, 0x34, 0x38, 0x3C, 0x40, 0x44, 0x48, 0x54, 0x58, 0x5C, 0x60] :
      List Offset) := by decide
theorem test_meets_CtrlWrites :
    ((3 : Word).getLsbD 0 = true ∧ (3 : Word).getLsbD 1 = true) ∧ ((2 : Word).getLsbD 0 = false ∧ busyState.tx.busy = true) ∧
    (¬ ((5 : Word).getLsbD 0 = true ∧ (5 : Word).getLsbD 1 = true) ∧
      ¬ ((5 : Word).getLsbD 0 = false ∧ busyState.tx.busy = true)) := by decide
/-- Each range of RegisterWrites at its ends, and a value on each side of it. -/
theorem test_meets_RegisterWrites :
    ∀ hi ∈ [6, 65535, 32, 255], (1 ≤ (1 : Word).toNat ∧ (1 : Word).toNat ≤ hi) ∧
      (1 ≤ (BitVec.ofNat 32 hi).toNat ∧ (BitVec.ofNat 32 hi).toNat ≤ hi) ∧
      ¬ (1 ≤ (0 : Word).toNat ∧ (0 : Word).toNat ≤ hi) ∧
      ¬ (1 ≤ (BitVec.ofNat 32 (hi + 1)).toNat ∧ (BitVec.ofNat 32 (hi + 1)).toNat ≤ hi) := by decide
/-- A clock out of reset, with a tick: TimerCountsTicks. -/
theorem test_meets_TimerCountsTicks_tick :
    (State.reset.setTickCnt (Config.tickDiv - 1)).nextInput.rstN = true ∧
    (∃ t, step (State.reset.setTickCnt (Config.tickDiv - 1)) = .next t) ∧
    (State.reset.setTickCnt (Config.tickDiv - 1)).tickCnt = Config.tickDiv - 1 := ⟨rfl, ⟨_, rfl⟩, rfl⟩
/-- The same with receive enabled and a frame decoded in that tick: TimerCountsTicks. -/
theorem test_meets_TimerCountsTicks_receive : gapAckState.nextInput.rstN = true ∧ (∃ t, step gapAckState = .next t) ∧
    gapAckState.tickCnt = Config.tickDiv - 1 ∧ ∃ u, accessStage gapAckState.nextInput.access gapAckState = .next u ∧ u.rxEn = true :=
  ⟨rfl, ⟨_, rfl⟩, rfl, _, rfl, rfl⟩
/-- A clock without a tick and with an idle bus: TimerCountsTicks, EnginesWaitForTicks. The count is out of its range, because
TICK_DIV may be 1, and then every clock of a run carries a tick. -/
theorem test_meets_EnginesWaitForTicks :
    ((State.reset.setTickCnt Config.tickDiv).setCtrl 2).nextInput.rstN = true ∧
    ((State.reset.setTickCnt Config.tickDiv).setCtrl 2).tickCnt ≠ Config.tickDiv - 1 ∧
    (∃ t, step ((State.reset.setTickCnt Config.tickDiv).setCtrl 2) = .next t) ∧
    ((State.reset.setTickCnt Config.tickDiv).setCtrl 2).nextInput.access = .idle ∧
    ((State.reset.setTickCnt Config.tickDiv).setCtrl 2).rxEn = true :=
  ⟨rfl, by show Config.tickDiv ≠ Config.tickDiv - 1; unfold Config.tickDiv; omega, ⟨_, rfl⟩, rfl, by decide⟩
/-- A step out of reset, and a reset clock: IrqFollowsFlags, ResetClockResets. -/
theorem test_meets_IrqFollowsFlags :
    ((∃ t, step State.reset = .next t) ∧ State.reset.nextInput.rstN = true) ∧
    ((∃ t, step (busyState.setInputs [{ rstN := false, access := .read 0, rxIn := true }]) = .next t) ∧
      (busyState.setInputs [{ rstN := false, access := .read 0, rxIn := true }]).nextInput.rstN = false) :=
  ⟨⟨⟨_, rfl⟩, rfl⟩, ⟨_, rfl⟩, rfl⟩
theorem test_meets_ResetClockResets :
    (busyState.setInputs [{ rstN := false, access := .read 0, rxIn := true }]).nextInput.rstN = false := by decide
theorem test_meets_SynchroniserDelaysTwoClocks :
    ∃ t u, (State.reset.setInputs [clockOf .idle, clockOf .idle]).nextInput.rstN = true ∧ t.nextInput.rstN = true ∧
      step (State.reset.setInputs [clockOf .idle, clockOf .idle]) = .next t ∧ step t = .next u :=
  ⟨_, _, rfl, rfl, rfl, rfl⟩
/-- Every invariant holds of a state that steps: the state after reset, with a burst started and a latch held. -/
theorem test_meets_StepKeeps : ∃ t, step State.reset = .next t := ⟨_, rfl⟩
theorem test_meets_StepKeepsControlLegal : ControlLegal State.reset := ⟨fun _ => rfl, fun h => by cases h⟩
theorem test_meets_StepKeepsChannelsLegal : ChannelsLegal busyState := ⟨by decide, fun _ => by decide, by decide⟩
theorem test_meets_StepKeepsFaultLegal : FaultLegal State.reset := fun _ => rfl
theorem test_meets_StepKeepsTimebaseLegal : TimebaseLegal State.reset := Nat.succ_pos _
theorem test_meets_StepKeepsLatchLegal : LatchLegal latchedState :=
  ⟨fun _ => by decide, fun _ => by decide, fun _ => by decide, fun _ => by decide⟩
theorem test_meets_StepKeepsProfileLegal : ProfileLegal sendState ∧ LatchLegal sendState :=
  ⟨⟨by decide, by decide, by decide, by decide, by decide⟩,
    ⟨by decide, by decide, by decide, by decide⟩⟩
theorem test_meets_TransmissionEndsOnTime : ProfileInRange smallProfile := ⟨by decide, by decide, by decide, by decide⟩
theorem test_meets_StepKeepsTransmitLegal : TransmitLegal busyState ∧ ProfileLegal busyState ∧ LatchLegal busyState :=
  ⟨⟨by decide, fun _ => test_meets_TransmissionEndsOnTime, fun _ => rfl, by decide, by decide,
      fun _ k h => (by cases h), by decide⟩,
    ⟨by decide, by decide, by decide, by decide, by decide⟩,
    ⟨by decide, by decide, by decide, by decide⟩⟩
theorem test_meets_StepKeepsDecoderLegal : DecoderLegal gapState :=
  ⟨by decide, by decide, by decide, by decide, by decide, by decide⟩
theorem test_meets_LineFollowsSegments : ProfileInRange sendState.prof ∧ (waveform sendState.prof.segments)[12]? = some true :=
  ⟨test_meets_TransmissionEndsOnTime, by decide⟩
theorem test_meets_SegmentListShape : ProfileInRange smallProfile ∧ smallProfile.segments[7]? = some ⟨false, 31⟩ :=
  ⟨test_meets_TransmissionEndsOnTime, by decide⟩
theorem test_meets_TransmissionLength : smallProfile.proto = 1 ∧ smallProfile.frameTicks = 44 := by decide
/-- Section 2.2, `(101, 3, 100, 24)` and `(101, 6, 500, 24)`, and section 2.3's `F` under protocols 2, 4 and 5. -/
theorem test_meets_TransmissionLength_protocols :
    [(2, 650), (3, 100), (4, 834), (5, 500), (6, 500)].map (fun e => Profile.frameTicks
      { code := 101, proto := BitVec.ofNat 8 e.1, pulse := BitVec.ofNat 16 e.2, bits := 24, reps := 1 }) =
      [53950, 46100, 85902, 46000, 69500] := by decide
theorem test_meets_SnapshotKeptWhileBusy : busyState.nextInput.rstN = true ∧ busyState.tx.busy = true ∧
    (∃ t, step busyState = .next t) := ⟨rfl, rfl, ⟨_, rfl⟩⟩
theorem test_meets_TransmissionNotCut : busyState.nextInput.rstN = true ∧ busyState.tx.busy = true ∧
    (busyState.tx.left ≠ 0 ∨ busyState.tx.pos < busyState.tx.seq.length) ∧ (∃ t, step busyState = .next t) :=
  ⟨rfl, rfl, by decide, ⟨_, rfl⟩⟩
theorem test_meets_FrameDecodes :
    (162 ≤ 350 ∧ 350 ≤ 65535 ∧ 3 ≤ 3 ∧ 3 ≤ 32 ∧ (5 : Word) ≠ 0 ∧ (5 : Word).toNat < 2 ^ 3 ∧ absDiff 11049 (31 * 350) < 200) := by
  decide
/-- The profile `(101, 1, 320, 24, 3)` of section 2.3. -/
theorem test_meets_BurstDecodes : ∀ p ∈ [({ code := 101, proto := 1, pulse := 320, bits := 24, reps := 3 } : Profile)],
    p.proto = 1 ∧ 162 ≤ p.pulse.toNat ∧ p.pulse.toNat ≤ 1666 ∧ p.code ≠ 0 ∧ p.code.toNat < 2 ^ p.bits.toNat ∧
    3 ≤ p.bits.toNat ∧ p.bits.toNat ≤ 32 ∧ 2 ≤ p.reps.toNat ∧ 1 ≤ 1 := by decide
theorem test_meets_LongPulseBurstNeverDecodes :
    ∀ p ∈ [({ code := 5, proto := 1, pulse := 1667, bits := 3, reps := 3 } : Profile)],
    p.proto = 1 ∧ p.code = 0b101 ∧ p.bits = 3 ∧ 5000 ≤ 3 * p.pulse.toNat ∧ 1 ≤ 1 := by decide
theorem test_meets_DecodedFramesAreSound :
    rxDecode referenceFrame 10850 10850 = some { code := 5, proto := 1, pulse := 350, bits := 3 } := by decide
theorem test_meets_DecodedFramesAreSound_lower :
    rxDecode [1050, 350, 630, 1050, 1050, 350, 350] 10850 10850 = some { code := 5, proto := 5, pulse := 775, bits := 3 } ∧
      1 ≤ 4 ∧ 4 < 5 := by decide
theorem test_meets_DecodedFrameIsLatched : gapState.rxEn = true ∧
    (gapState.dec.tick gapState.sync.stage2).2 = some { code := 5, proto := 1, pulse := 350, bits := 3 } := by decide
/-- The clock of that tick, with an idle bus. -/
theorem test_meets_DecodedFrameIsLatched_step :
    ((gapState.setTickCnt (Config.tickDiv - 1)).dec.tick (gapState.setTickCnt (Config.tickDiv - 1)).sync.stage2).2 =
      some { code := 5, proto := 1, pulse := 350, bits := 3 } ∧
    ∃ t, (gapState.setTickCnt (Config.tickDiv - 1)).nextInput.rstN = true ∧
      (gapState.setTickCnt (Config.tickDiv - 1)).tickCnt = Config.tickDiv - 1 ∧
      step (gapState.setTickCnt (Config.tickDiv - 1)) = .next t ∧ t.rxEn = true := ⟨by decide, _, rfl, rfl, rfl, rfl⟩
/-- The same clock with an RX_ACK: gapAckState meets the other case of RX_OVERRUN. -/
theorem test_meets_DecodedFrameIsLatched_ack : gapAckState.fault.code = .none ∧
    (gapAckState.dec.tick gapAckState.sync.stage2).2 = some { code := 5, proto := 1, pulse := 350, bits := 3 } ∧
    ∃ t, gapAckState.nextInput.rstN = true ∧ gapAckState.nextInput.access = .write 0x0C 0x00000008 ∧
      gapAckState.tickCnt = Config.tickDiv - 1 ∧ step gapAckState = .next t ∧ t.rxEn = true :=
  ⟨rfl, by decide, _, rfl, rfl, rfl, rfl, rfl⟩
theorem test_meets_OverrunShowsOverwrite : latchedState.nextInput.rstN = true ∧ latchedState.rx.valid = true ∧
    (∀ w, latchedState.nextInput.access = .write 0x0C w → decode w ≠ some .rxAck) ∧ (∃ t, step latchedState = .next t) :=
  ⟨rfl, rfl, fun w h => (by cases h), ⟨_, rfl⟩⟩
theorem test_meets_DisabledDecoderIsHeld : ∃ t, step latchedState = .next t ∧ t.rxEn = false ∧
    latchedState.nextInput.rstN = true ∧ latchedState.rxEn = false ∧ latchedState.nextInput.access = .idle :=
  ⟨_, rfl, rfl, rfl, rfl, rfl⟩
theorem test_meets_ClassificationTable : (100 : Int) ≤ 100 := by decide
theorem test_meets_ToggleOnlyOnEdges : ∃ t, (activeState false none 60 50).fault.code = .none ∧
    (activeState false none 60 50).ctl.loop = .active ∧ exec (.ctlCycle .on) (activeState false none 60 50) = .next t ∧
    t.fault.code = .none := ⟨_, rfl, rfl, rfl, rfl⟩
theorem test_meets_ToggleCountOfARun : (activeState false none 0 120).fault.code = .none ∧
    (activeState false none 0 120).ctl.loop = .active ∧ (activeState false none 0 120).ctrl.getLsbD 2 = false := by decide
theorem test_meets_ReentryNeedsOff : ControlLegal (activeState true (some 50) 60 50) ∧
    (activeState true (some 50) 60 50).fault.code = .none ∧ (activeState true (some 50) 60 50).ctl.loop = .active ∧
    (activeState true (some 50) 60 50).ctrl.getLsbD 2 = false :=
  ⟨⟨fun h => absurd rfl h, fun _ => rfl⟩, rfl, rfl, rfl⟩

end Sys2Proof.Tests
end

/-! ### What an access and the end of a clock do to the latch, the profile, the time base and the synchroniser -/

namespace Sys2Proof.Machine

section StateRules

variable (s : State)

/-- The end of a clock does not look at `bus_rdata`. -/
theorem endClock_setReadData (div : Nat) (rxIn : Bool) (d : Option Word) :
    (s.setReadData d).endClock div rxIn = (s.endClock div rxIn).setReadData d := by
  simp only [State.endClock, tickStage_setReadData]
  rfl

/-- A step out of reset is an access, the end of the clock, and the datum of a read. -/
theorem step_out_of_reset {t : State} (hrst : s.nextInput.rstN = true) (h : step s = .next t) :
    ∃ u, accessStage s.nextInput.access s = .next u ∧
      t = (u.endClock Config.tickDiv s.nextInput.rxIn).setReadData (readDatum s.nextInput.access s) := by
  rcases step_cases s h with ⟨hreset, _⟩ | ⟨_, u, hu, e⟩
  · rw [hrst] at hreset
    cases hreset
  · exact ⟨u, hu, e.trans (endClock_setReadData u _ _ _)⟩

/-- An idle bus changes nothing. -/
theorem accessStage_idle {a : Access} {u : State} (h : accessStage a s = .next u) (hidle : a = .idle) : u = s := by
  subst hidle
  cases h
  rfl

/-- A command writes nothing of the latch, or it is an RX_ACK, which clears RX_VALID and RX_OVERRUN (41_rx_decoder.md R160). -/
theorem exec_rx_cases {i : Instr} {t : State} (h : exec i s = .next t) :
    t.rx = s.rx ∨ t.rx = { s.rx with valid := false, overrun := false } := by
  rcases exec_cases s h with rfl | ⟨_, rfl⟩ | ⟨e, _⟩ | ⟨_, hcmd⟩
  · exact .inl rfl
  · exact .inl rfl
  · rw [e]; exact .inl rfl
  · rcases hcmd with ⟨-, -, rfl⟩ | ⟨-, rfl⟩ | ⟨-, rfl⟩ | ⟨-, rfl⟩ | ⟨-, -, rfl⟩ | ⟨m, -, -, rfl⟩ | ⟨m, -, -, rfl⟩
    · exact .inl rfl
    · exact .inl rfl
    · exact .inl rfl
    · exact .inr rfl
    · exact .inl rfl
    · obtain ⟨_, _, _, _, hrx, _⟩ := modePoll_kept s m
      exact .inl hrx
    · obtain ⟨_, _, _, _, hrx, _⟩ := cycle_kept s m
      exact .inl hrx

/-- An access writes nothing of the latch, or it is an RX_ACK: only a command reaches the latch. -/
theorem accessStage_rx_cases {a : Access} {u : State} (h : accessStage a s = .next u) :
    u.rx = s.rx ∨ u.rx = { s.rx with valid := false, overrun := false } := by
  rcases accessStage_cases s h with rfl | ⟨e, _⟩ | ⟨_, _, _, _, rfl⟩ | ⟨_, _, _, _, hexec⟩ | ⟨_, _, rfl⟩ |
    ⟨_, _, _, rfl⟩ | ⟨_, _, _, rfl⟩ | ⟨_, _, _, rfl⟩ | ⟨_, _, _, rfl⟩ | ⟨_, _, rfl⟩ | ⟨_, _, rfl⟩
  case inr.inl => rw [e]; exact .inl rfl
  case inr.inr.inr.inl => exact exec_rx_cases s hexec
  all_goals exact .inl rfl

/-- A command leaves the profile registers, clears them (42_tx_actuator.md R190), or captures the latch into them
(41_rx_decoder.md R162). -/
theorem exec_prof_cases {i : Instr} {t : State} (h : exec i s = .next t) :
    (t.prof = s.prof ∧ t.profValid = s.profValid) ∨
    (t.prof = Profile.cleared ∧ t.profValid = 0) ∨
    (s.rx.valid = true ∧ t.prof = s.rx.candidate ∧ t.profValid = 0b11111#5) := by
  rcases exec_cases s h with rfl | ⟨_, rfl⟩ | ⟨e, _⟩ | ⟨_, hcmd⟩
  · exact .inl ⟨rfl, rfl⟩
  · exact .inl ⟨rfl, rfl⟩
  · rw [e]; exact .inl ⟨rfl, rfl⟩
  · rcases hcmd with ⟨-, -, rfl⟩ | ⟨-, rfl⟩ | ⟨-, rfl⟩ | ⟨-, rfl⟩ | ⟨-, hv, rfl⟩ | ⟨m, -, -, rfl⟩ | ⟨m, -, -, rfl⟩
    · exact .inl ⟨rfl, rfl⟩
    · exact .inl ⟨rfl, rfl⟩
    · exact .inr (.inl ⟨rfl, rfl⟩)
    · exact .inl ⟨rfl, rfl⟩
    · exact .inr (.inr ⟨hv, rfl, rfl⟩)
    · obtain ⟨_, _, hprof, hvalid, _⟩ := modePoll_kept s m
      exact .inl ⟨hprof, hvalid⟩
    · obtain ⟨_, _, hprof, hvalid, _⟩ := cycle_kept s m
      exact .inl ⟨hprof, hvalid⟩

/-- An access to the profile registers is a command's, or a write of one field in its range (10_state.md R36 to R40). -/
theorem accessStage_prof_cases {a : Access} {u : State} (h : accessStage a s = .next u) :
    (u.prof = s.prof ∧ u.profValid = s.profValid) ∨
    (u.prof = Profile.cleared ∧ u.profValid = 0) ∨
    (s.rx.valid = true ∧ u.prof = s.rx.candidate ∧ u.profValid = 0b11111#5) ∨
    (∃ v, u = s.writeProfCode v) ∨
    (∃ v : Word, (1 ≤ v.toNat ∧ v.toNat ≤ Config.nProto) ∧
      u = (s.setProf { s.prof with proto := v.setWidth 8 }).markProfSet 1) ∨
    (∃ v : Word, (1 ≤ v.toNat ∧ v.toNat ≤ 65535) ∧
      u = (s.setProf { s.prof with pulse := v.setWidth 16 }).markProfSet 2) ∨
    (∃ v : Word, (1 ≤ v.toNat ∧ v.toNat ≤ 32) ∧
      u = (s.setProf { s.prof with bits := v.setWidth 6 }).markProfSet 3) ∨
    (∃ v : Word, (1 ≤ v.toNat ∧ v.toNat ≤ 255) ∧
      u = (s.setProf { s.prof with reps := v.setWidth 8 }).markProfSet 4) := by
  rcases accessStage_cases s h with rfl | ⟨e, _⟩ | ⟨_, _, _, _, rfl⟩ | ⟨_, _, _, _, hexec⟩ | ⟨v, _, e⟩ | ⟨v, _, hv, e⟩ |
    ⟨v, _, hv, e⟩ | ⟨v, _, hv, e⟩ | ⟨v, _, hv, e⟩ | ⟨_, _, rfl⟩ | ⟨_, _, rfl⟩
  · exact .inl ⟨rfl, rfl⟩
  · rw [e]; exact .inl ⟨rfl, rfl⟩
  · exact .inl ⟨rfl, rfl⟩
  · exact (exec_prof_cases s hexec).imp id (Or.imp id .inl)
  · exact .inr (.inr (.inr (.inl ⟨v, e⟩)))
  · exact .inr (.inr (.inr (.inr (.inl ⟨v, hv, e⟩))))
  · exact .inr (.inr (.inr (.inr (.inr (.inl ⟨v, hv, e⟩)))))
  · exact .inr (.inr (.inr (.inr (.inr (.inr (.inl ⟨v, hv, e⟩))))))
  · exact .inr (.inr (.inr (.inr (.inr (.inr (.inr ⟨v, hv, e⟩))))))
  · exact .inl ⟨rfl, rfl⟩
  · exact .inl ⟨rfl, rfl⟩

/-- The divider after any clock: 0 after a tick, else one more. -/
theorem endClock_tickCnt (div : Nat) (rxIn : Bool) :
    (s.endClock div rxIn).tickCnt = if s.tickCnt = div - 1 then 0 else s.tickCnt + 1 := by
  rcases tickStage_cases s div with ⟨h, e⟩ | ⟨h, e⟩ <;>
    simp [State.endClock, e, h, State.holdDecoder, State.irqStage, State.syncStage, State.consumeInput]

/-- The synchroniser at the end of a clock has shifted in the level of `rf_rx_in`, whether or not the clock carries a tick. -/
theorem endClock_sync (div : Nat) (rxIn : Bool) :
    (s.endClock div rxIn).sync = { stage1 := rxIn, stage2 := s.sync.stage1 } := rfl

/-- The end of a clock without a tick: the divider counts on, and TIMER, the line, the transmit engine and the latch stay. -/
theorem endClock_noTick {div : Nat} (rxIn : Bool) (h : s.tickCnt ≠ div - 1) :
    (s.endClock div rxIn).tickCnt = s.tickCnt + 1 ∧ (s.endClock div rxIn).timer = s.timer ∧
    (s.endClock div rxIn).rfTxOut = s.rfTxOut ∧ (s.endClock div rxIn).tx = s.tx ∧
    (s.endClock div rxIn).txDone = s.txDone ∧ (s.endClock div rxIn).rx = s.rx := by
  rcases tickStage_cases s div with ⟨_, e⟩ | ⟨h', _⟩
  · simp [State.endClock, e, State.holdDecoder, State.irqStage, State.syncStage, State.consumeInput]
  · exact absurd h' h

/-- The decoder after a clock without a tick: as it was, or held in its initial state while RX_EN = 0. -/
theorem endClock_noTick_dec {div : Nat} (rxIn : Bool) (h : s.tickCnt ≠ div - 1) :
    (s.endClock div rxIn).dec = if s.rxEn then s.dec else RxDecoder.initial := by
  rcases tickStage_cases s div with ⟨_, e⟩ | ⟨h', _⟩
  · simp [State.endClock, e, State.holdDecoder, State.irqStage, State.syncStage, State.consumeInput, State.rxEn]
  · exact absurd h' h

/-- The end of a clock leaves the latch, or writes a frame that the decoder finds in this clock's sample. -/
theorem endClock_rx_cases (div : Nat) (rxIn : Bool) :
    (s.endClock div rxIn).rx = s.rx ∨
    ∃ r, (s.dec.tick s.sync.stage2).2 = some r ∧ (s.endClock div rxIn).rx = s.rx.latch r (s.timer + 1) := by
  by_cases h : s.tickCnt = div - 1
  · rw [endClock_tick_rx s rxIn h]
    cases s.rxEn with
    | false => exact .inl rfl
    | true =>
      cases hr : (s.dec.tick s.sync.stage2).2 with
      | none => exact .inl rfl
      | some r => exact .inr ⟨r, rfl, rfl⟩
  · obtain ⟨_, _, _, _, _, hrx⟩ := endClock_noTick s rxIn h
    exact .inl hrx

end StateRules

end Sys2Proof.Machine

/-! ### The ranges of a decoded frame, and of the latch -/

namespace Sys2Proof.Machine

section DecodedFrames

open Sys2Proof.Safety

/-- A reception in the ranges of the latch's registers, its code within its bits (10_state.md R43 to R45, 41_rx_decoder.md R151). -/
structure Reception.InRange (r : Reception) : Prop where
  proto : 1 ≤ r.proto ∧ r.proto ≤ Config.nProto
  pulse : 1 ≤ r.pulse ∧ r.pulse ≤ 65535
  bits : Config.rxMinBits ≤ r.bits ∧ r.bits ≤ Config.rxMaxBits
  code : r.code ≠ 0 ∧ r.code < 2 ^ r.bits

/-- Each pair of intervals doubles the code and adds one bit; an interval left over adds none (41_rx_decoder.md R145, R153). -/
theorem decodeBits_lt {tm : Timing} {t tol : Nat} {buf : List Nat} {code c : Nat}
    (h : decodeBits tm t tol buf code = some c) : c < (code + 1) * 2 ^ (buf.length / 2) := by
  fun_induction decodeBits tm t tol buf code with
  | case1 hi lo rest code b hb ih =>
    have hpairs : (hi :: lo :: rest).length / 2 = rest.length / 2 + 1 := Nat.add_div_right rest.length Nat.two_pos
    have hbit : b.toNat ≤ 1 := Bool.toNat_le b
    calc c < (code * 2 + b.toNat + 1) * 2 ^ (rest.length / 2) := ih h
      _ ≤ ((code + 1) * 2) * 2 ^ (rest.length / 2) := Nat.mul_le_mul_right _ (by omega)
      _ = (code + 1) * 2 ^ ((hi :: lo :: rest).length / 2) := by rw [hpairs, Nat.pow_succ]; ring
  | case2 => cases h
  | case3 code x => cases h; simp
  | case4 code => cases h; simp

/-- What one protocol's try gives, when it gives a frame (41_rx_decoder.md R148, R151). -/
theorem tryProtocol_some {buf : List Nat} {gp n p : Nat} {r : Reception} (h : tryProtocol buf gp n p = some r) :
    r.proto = p ∧ r.bits = n ∧ (1 ≤ r.pulse ∧ r.pulse ≤ 65535) ∧ r.code ≠ 0 ∧ r.code < 2 ^ (buf.length / 2) := by
  simp only [tryProtocol] at h
  split at h
  · cases h
  · split at h
    · rename_i hpulse code hcode
      split at h
      · cases h
        have hlt := decodeBits_lt hcode
        exact ⟨rfl, rfl, by dsimp only; omega, by assumption, by simpa using hlt⟩
      · cases h
    · cases h

/-- The decoder tries the protocols 1 to `N_PROTO` (41_rx_decoder.md R150). -/
theorem mem_protocols {p : Nat} (h : p ∈ protocols) : 1 ≤ p ∧ p ≤ Config.nProto := by
  rw [protocols, List.mem_range'_1] at h
  omega

/-- Whatever the buffer holds, a frame decoded from it lies in the ranges of the latch (41_rx_decoder.md R145, R151). -/
theorem rxDecode_inRange {buf : List Nat} {gp gn : Nat} {r : Reception} (h : rxDecode buf gp gn = some r) : r.InRange := by
  simp only [rxDecode] at h
  split at h
  · cases h
  · split at h
    · cases h
    · split at h
      · cases h
      · rename_i hodd hbits
        obtain ⟨p, hp, htry⟩ := List.exists_of_findSome?_eq_some h
        obtain ⟨hproto, hn, hpulse, hcode, hlt⟩ := tryProtocol_some htry
        have hpairs : buf.length / 2 = (buf.length - 1) / 2 := by omega
        exact ⟨hproto ▸ mem_protocols hp, hpulse, by omega, hcode, by rwa [hn, ← hpairs]⟩

/-- A frame that a sample completes is one that `rxDecode` gave, so it is in range. -/
theorem rxTick_inRange {x : RxDecoder} {b : Bool} {r : Reception} (h : (x.tick b).2 = some r) : r.InRange := by
  rcases rxTick_cases x b with ⟨_, e⟩ | ⟨_, _, e⟩ | ⟨_, _, _, e⟩ | ⟨_, _, _, e⟩ <;> rw [e] at h
  · cases h
  · cases h
  · cases h
  · simp only [RxDecoder.closedFrame] at h
    split at h
    · exact rxDecode_inRange h
    · cases h

/-- A latch with RX_VALID = 0 claims nothing of its registers. -/
theorem latchLegal_of_not_valid {t : State} (h : t.rx.valid = false) : LatchLegal t :=
  have absurdValid {P : Prop} (hv : t.rx.valid = true) : P := by simp [h] at hv
  ⟨absurdValid, absurdValid, absurdValid, absurdValid⟩

/-- LatchLegal speaks of the latch only. -/
theorem latchLegal_of_rx_eq {s t : State} (h : t.rx = s.rx) (hs : LatchLegal s) : LatchLegal t := by
  obtain ⟨hproto, hpulse, hbits, hcode⟩ := hs
  exact ⟨by rwa [h], by rwa [h], by rwa [h], by rwa [h]⟩

/-- A frame in range fits the widths of the latch's registers, so latching it truncates nothing (41_rx_decoder.md R152). -/
theorem latchLegal_of_latch {t : State} {x : RxLatch} {r : Reception} {now : Word} (h : t.rx = x.latch r now)
    (hr : r.InRange) : LatchLegal t := by
  obtain ⟨⟨hp1, hp2⟩, ⟨ht1, ht2⟩, ⟨hb1, hb2⟩, hc0, hc⟩ := hr
  simp only [Config.nProto, Config.rxMinBits, Config.rxMaxBits] at hp2 hb1 hb2
  have hc32 : r.code < 2 ^ 32 := hc.trans_le (Nat.pow_le_pow_right (by decide) hb2)
  have hproto : t.rx.proto.toNat = r.proto := by rw [h]; exact Nat.mod_eq_of_lt (by omega)
  have hpulse : t.rx.pulse.toNat = r.pulse := by rw [h]; exact Nat.mod_eq_of_lt (by omega)
  have hbits : t.rx.bits.toNat = r.bits := by rw [h]; exact Nat.mod_eq_of_lt (by omega)
  have hcode : t.rx.code.toNat = r.code := by rw [h]; exact Nat.mod_eq_of_lt hc32
  refine ⟨fun _ => ?_, fun _ => ?_, fun _ => ?_, fun _ => ⟨fun hz => hc0 ?_, ?_⟩⟩
  · rw [hproto]; exact ⟨hp1, hp2⟩
  · rwa [hpulse]
  · rw [hbits]; exact ⟨hb1, hb2⟩
  · rw [← hcode, hz]; rfl
  · rwa [hcode, hbits]

/-- An access keeps LatchLegal: it leaves the latch, or clears RX_VALID. -/
theorem accessStage_keeps_latchLegal {s u : State} {a : Access} (hs : LatchLegal s) (h : accessStage a s = .next u) :
    LatchLegal u := by
  rcases accessStage_rx_cases s h with e | e
  · exact latchLegal_of_rx_eq e hs
  · exact latchLegal_of_not_valid (by rw [e])

/-- The end of a clock keeps LatchLegal: it leaves the latch, or latches a decoded frame. -/
theorem endClock_keeps_latchLegal {s : State} (div : Nat) (rxIn : Bool) (hs : LatchLegal s) :
    LatchLegal (s.endClock div rxIn) := by
  rcases endClock_rx_cases s div rxIn with e | ⟨r, hr, e⟩
  · exact latchLegal_of_rx_eq e hs
  · exact latchLegal_of_latch e (rxTick_inRange hr)

/-- Settles O40, by the bound on the code of a decoded frame (an induction over the buffer). -/
theorem stepKeepsLatchLegal : Obligations.StepKeepsLatchLegal := by
  unfold Obligations.StepKeepsLatchLegal
  intro s t hs hstep
  rcases step_cases s hstep with ⟨_, rfl⟩ | ⟨_, u, hu, rfl⟩
  · exact latchLegal_of_not_valid rfl
  · have hlegal : LatchLegal u := accessStage_keeps_latchLegal hs hu
    exact endClock_keeps_latchLegal _ _ (latchLegal_of_rx_eq (State.setReadData_rx u _) hlegal)

end DecodedFrames

end Sys2Proof.Machine

/-! ### The word STATUS reads as -/

namespace Sys2Proof.Machine

section StatusWord

variable (s : State)

/-- A read at 0x08 is a read of STATUS (10_state.md R26). -/
theorem busRead_status : (s.busRead 0x08).2 = s.statusWord := by
  have hreg : regAt 0x08 = some .status := regAt_offset .status
  rcases busRead_cases s 0x08 with ⟨r, hr, e⟩ | ⟨hr, _⟩
  · obtain rfl := Option.some.inj (hr.symm.trans hreg)
    rw [e]
    rfl
  · rw [hreg] at hr
    cases hr

/-- STATUS.FAULT_PENDING says that a fault is recorded (10_state.md R30). -/
theorem faultPending_iff : s.faultPending = true ↔ s.fault.code ≠ .none := by
  simp [State.faultPending]

/-- STATUS.PROF_OK (40_pulse_codec.md R112). -/
theorem profOk_iff : s.profOk = true ↔
    s.profValid = 0b11111 ∧ (s.prof.bits = 32 ∨ s.prof.code.toNat < 2 ^ s.prof.bits.toNat) := by
  simp [State.profOk]

/-- STATUS.RX_EQ_PROF (40_pulse_codec.md R113). -/
theorem rxEqProf_iff : s.rxEqProf = true ↔ s.rx.valid = true ∧ s.profValid.extractLsb' 0 3 = 0b111 ∧
    s.rx.code = s.prof.code ∧ s.rx.proto = s.prof.proto ∧ s.rx.pulse = s.prof.pulse := by
  simp [State.rxEqProf, and_assoc]

/-- STATUS.CTL_STATE is 1 exactly in ACTIVE (10_state.md R30). -/
theorem LoopState.toBit_iff (l : LoopState) : l.toBit = true ↔ l = .active := by
  cases l <;> decide

/-- The width of STATUS as the sum of its fields' widths, the form in which the bits of a concatenation are looked up. -/
theorem statusWord_getLsbD (i : Nat) : s.statusWord.getLsbD i =
    BitVec.getLsbD (w := 15 + 1 + 1 + 2 + 1 + 2 + 1 + 1 + 1 + 1 + 1 + 1 + 1 + 1 + 1 + 1) s.statusWord i := rfl

/-- The one-bit fields of STATUS and its one-bit reserved fields, each at its place (10_state.md R30). -/
theorem statusWord_flags :
    s.statusWord.getLsbD 0 = s.tx.busy ∧ s.statusWord.getLsbD 1 = s.txDone ∧ s.statusWord.getLsbD 2 = s.rx.valid ∧
    s.statusWord.getLsbD 3 = s.rx.overrun ∧ s.statusWord.getLsbD 4 = s.faultPending ∧ s.statusWord.getLsbD 5 = s.profOk ∧
    s.statusWord.getLsbD 6 = s.rxEqProf ∧ s.statusWord.getLsbD 7 = false ∧ s.statusWord.getLsbD 8 = s.ctl.loop.toBit ∧
    s.statusWord.getLsbD 9 = s.ctl.actuatorActive ∧ s.statusWord.getLsbD 12 = s.prevThreshSet ∧
    s.statusWord.getLsbD 15 = false ∧ s.statusWord.getLsbD 16 = s.irq := by
  simp only [statusWord_getLsbD]
  simp only [State.statusWord, BitVec.getLsbD_append]
  simp

/-- The wider fields of STATUS: PREV_MODE in bits 11:10, LAST_CLASS in bits 14:13, reserved bits 31:17 (10_state.md R30). -/
theorem statusWord_fields :
    s.statusWord.extractLsb' 10 2 = s.ctl.prevMode.toBits ∧ s.statusWord.extractLsb' 13 2 = s.ctl.lastClass.toBits ∧
    s.statusWord.extractLsb' 17 15 = 0 := by
  refine ⟨?_, ?_, ?_⟩
  all_goals
    refine BitVec.eq_of_getLsbD_eq fun i hi => ?_
    rw [BitVec.getLsbD_extractLsb', statusWord_getLsbD, State.statusWord]
    simp only [BitVec.getLsbD_append]
    interval_cases i <;> simp

end StatusWord

/-- Settles O24: each field stands at its place in the word, and each flag says what the spec defines it to say. -/
theorem statusFields : Obligations.StatusFields := by
  unfold Obligations.StatusFields
  rintro s w rfl
  rw [busRead_status]
  obtain ⟨hbusy, hdone, hvalid, hoverrun, hfault, hprofOk, hrxEq, h7, hloop, hactive, hthresh, h15, hirq⟩ := statusWord_flags s
  obtain ⟨hprevMode, hlastClass, hhigh⟩ := statusWord_fields s
  rw [hfault, hprofOk, hrxEq, hloop, hprevMode, hlastClass]
  refine ⟨hbusy, hdone, hvalid, hoverrun, faultPending_iff s, profOk_iff s, rxEqProf_iff s, h7, LoopState.toBit_iff _,
    hactive, ?_, hthresh, ?_, h15, hirq, hhigh⟩
  · cases s.ctl.prevMode <;> rfl
  · cases s.ctl.lastClass <;> rfl

end Sys2Proof.Machine

/-! ### The time base, the engines and the synchroniser -/

namespace Sys2Proof.Machine

/-- Settles O39: the divider returns to 0 at `TICK_DIV - 1`, and below that one more is still below TICK_DIV. -/
theorem stepKeepsTimebaseLegal : Obligations.StepKeepsTimebaseLegal := by
  unfold Obligations.StepKeepsTimebaseLegal Safety.TimebaseLegal
  intro s t hs hstep
  have hpos := tickDiv_pos
  rcases step_cases s hstep with ⟨_, rfl⟩ | ⟨_, u, hu, rfl⟩
  · exact hpos
  · obtain ⟨_, hcnt, _⟩ := accessStage_kept s hu
    rw [endClock_tickCnt, State.setReadData_tickCnt, hcnt]
    split <;> omega

/-- Settles O34: each clock's end moves the level one stage on, and the access moves neither stage. -/
theorem synchroniserDelaysTwoClocks : Obligations.SynchroniserDelaysTwoClocks := by
  unfold Obligations.SynchroniserDelaysTwoClocks
  intro s t u hs ht hst htu
  obtain ⟨s', _, rfl⟩ := step_out_of_reset s hs hst
  obtain ⟨t', ht', rfl⟩ := step_out_of_reset _ ht htu
  obtain ⟨_, _, _, _, hsync, _⟩ := accessStage_kept _ ht'
  rw [State.setReadData_sync, endClock_sync, hsync, State.setReadData_sync, endClock_sync]

/-- Settles O30: without a tick the end of the clock writes neither engine, and an access never writes the line or TIMER. -/
theorem enginesWaitForTicks : Obligations.EnginesWaitForTicks := by
  unfold Obligations.EnginesWaitForTicks
  intro s t hrst hcnt hstep
  obtain ⟨u, hu, rfl⟩ := step_out_of_reset s hrst hstep
  obtain ⟨htimer, hcntKept, hline, -⟩ := accessStage_kept s hu
  have hnoTick := hcntKept.trans_ne hcnt
  obtain ⟨-, htimerEnd, hlineEnd, htx, hdone, hrx⟩ := endClock_noTick u s.nextInput.rxIn hnoTick
  refine ⟨hlineEnd.trans hline, htimerEnd.trans htimer, fun hidle => ?_⟩
  obtain rfl := accessStage_idle s hu hidle
  exact ⟨htx, hdone, hrx, fun hrxEn => (endClock_noTick_dec u u.nextInput.rxIn hnoTick).trans (if_pos hrxEn)⟩

/-- Settles O29: the divider decides whether the end of the clock runs TIMER and the engines; they run on what the access left, and
the access leaves TIMER, the divider, the decoder and the synchroniser. -/
theorem timerCountsTicks : Obligations.TimerCountsTicks := by
  unfold Obligations.TimerCountsTicks
  intro s t hrst hstep
  obtain ⟨u, hu, rfl⟩ := step_out_of_reset s hrst hstep
  obtain ⟨htimer, hcnt, -, hdec, hsync, -⟩ := accessStage_kept s hu
  rw [← htimer, ← hcnt, ← hdec, ← hsync]
  refine ⟨fun hne => ?_, fun htick => ?_⟩
  · obtain ⟨hcntEnd, htimerEnd, -⟩ := endClock_noTick u s.nextInput.rxIn hne
    exact ⟨hcntEnd, htimerEnd⟩
  · obtain ⟨hcntEnd, htimerEnd⟩ := endClock_tick_timer u s.nextInput.rxIn htick
    obtain ⟨htx, hdone, hline⟩ := endClock_tick_tx u s.nextInput.rxIn htick
    refine ⟨hcntEnd, htimerEnd, u, hu, accessStage_idle s hu, htx, hdone, hline, fun hrxEn => ⟨?_, ?_⟩, fun hrxEn => ?_⟩
    · exact (endClock_tick_dec u s.nextInput.rxIn htick).trans (if_pos hrxEn)
    · refine ((endClock_tick_rx u s.nextInput.rxIn htick).trans (if_pos hrxEn)).trans ?_
      cases (u.dec.tick u.sync.stage2).2 <;> rfl
    · exact (endClock_tick_rx u s.nextInput.rxIn htick).trans (if_neg (Bool.eq_false_iff.1 hrxEn))

end Sys2Proof.Machine

/-! ### The profile registers -/

namespace Sys2Proof.Machine

section ProfileRegisters

open Sys2Proof.Safety

variable {s t : State}

/-- ProfileLegal speaks of the PROF_* registers only. -/
theorem profileLegal_of_prof_eq (hprof : t.prof = s.prof) (hvalid : t.profValid = s.profValid) (hs : ProfileLegal s) :
    ProfileLegal t := by
  obtain ⟨hcode, hproto, hpulse, hbits, hreps⟩ := hs
  constructor <;> rwa [hprof, hvalid]

/-- A cleared profile has every field 0 and none set. -/
theorem profileLegal_of_cleared (hprof : t.prof = Profile.cleared) (hvalid : t.profValid = 0) : ProfileLegal t := by
  constructor <;> simp [hprof, hvalid, Profile.cleared]

/-- A legal latch gives a candidate with every field set and in range (41_rx_decoder.md R162). -/
theorem profileLegal_of_candidate (hs : LatchLegal s) (hv : s.rx.valid = true) (hprof : t.prof = s.rx.candidate)
    (hvalid : t.profValid = 0b11111#5) : ProfileLegal t := by
  have hproto := hs.proto hv
  have hpulse := hs.pulse hv
  constructor <;> simp [hprof, hvalid, RxLatch.candidate, Config.captureBits, Config.captureRepeat, hproto, hpulse]

/-- Marking field `k` as set leaves the profile. -/
@[simp] theorem markProfSet_prof (s : State) (k : Nat) : (s.markProfSet k).prof = s.prof := rfl

/-- Marking field `k` as set leaves the other bits of PROF_VALID (10_state.md R41). -/
@[simp] theorem markProfSet_profValid_getElem (s : State) (k i : Nat) (hi : i < 5) :
    (s.markProfSet k).profValid[i] = (s.profValid[i] || decide (i = k)) := by
  by_cases hlt : i < k
  · simp [State.markProfSet, hlt, hlt.ne]
  · have heq : (i - k = 0) ↔ i = k := by omega
    simp [State.markProfSet, hlt, heq]

/-- An access keeps ProfileLegal: a field is written within its range and marked in the same access (10_state.md R36 to R41). -/
theorem accessStage_keeps_profileLegal {a : Access} (hs : ProfileLegal s) (hlatch : LatchLegal s)
    (h : accessStage a s = .next t) : ProfileLegal t := by
  rcases accessStage_prof_cases s h with ⟨hprof, hvalid⟩ | ⟨hprof, hvalid⟩ | ⟨hv, hprof, hvalid⟩ | ⟨v, rfl⟩ | ⟨v, hv, rfl⟩ |
    ⟨v, hv, rfl⟩ | ⟨v, hv, rfl⟩ | ⟨v, hv, rfl⟩
  · exact profileLegal_of_prof_eq hprof hvalid hs
  · exact profileLegal_of_cleared hprof hvalid
  · exact profileLegal_of_candidate hlatch hv hprof hvalid
  all_goals obtain ⟨hcode, hproto, hpulse, hbits, hreps⟩ := hs
  · exact ⟨by simp [State.writeProfCode], by simpa [State.writeProfCode] using hproto,
      by simpa [State.writeProfCode] using hpulse, by simpa [State.writeProfCode] using hbits,
      by simpa [State.writeProfCode] using hreps⟩
  · have hfits : v.toNat % 256 = v.toNat := Nat.mod_eq_of_lt (hv.2.trans_lt (by decide))
    exact ⟨by simpa using hcode, by simpa [hfits] using hv, by simpa using hpulse, by simpa using hbits, by simpa using hreps⟩
  · have hfits : v.toNat % 65536 = v.toNat := Nat.mod_eq_of_lt (hv.2.trans_lt (by decide))
    exact ⟨by simpa using hcode, by simpa using hproto, by simpa [hfits] using hv.1, by simpa using hbits, by simpa using hreps⟩
  · have hfits : v.toNat % 64 = v.toNat := Nat.mod_eq_of_lt (hv.2.trans_lt (by decide))
    exact ⟨by simpa using hcode, by simpa using hproto, by simpa using hpulse, by simpa [hfits] using hv, by simpa using hreps⟩
  · have hfits : v.toNat % 256 = v.toNat := Nat.mod_eq_of_lt (hv.2.trans_lt (by decide))
    exact ⟨by simpa using hcode, by simpa using hproto, by simpa using hpulse, by simpa using hbits, by simpa [hfits] using hv.1⟩

/-- Settles O41: the access keeps the profile legal, and nothing else in a clock writes it. -/
theorem stepKeepsProfileLegal : Obligations.StepKeepsProfileLegal := by
  unfold Obligations.StepKeepsProfileLegal
  intro s t hs hlatch hstep
  rcases step_cases s hstep with ⟨_, rfl⟩ | ⟨_, u, hu, rfl⟩
  · exact profileLegal_of_cleared rfl rfl
  · obtain ⟨_, _, hprof, hvalid, _⟩ :=
      endClock_kept (u.setReadData (readDatum s.nextInput.access s)) Config.tickDiv s.nextInput.rxIn
    have hlegal : ProfileLegal u := accessStage_keeps_profileLegal hs hlatch hu
    exact profileLegal_of_prof_eq (s := u) hprof hvalid hlegal

end ProfileRegisters

end Sys2Proof.Machine

/-! ### Register reads, and the segment list of a transmission in progress -/

namespace Sys2Proof.Machine

section MemoryRules

variable (s : State)

/-- What a register reads as does not depend on the schedule of inputs. -/
@[simp] theorem readReg_withAccess (a : Access) (r : RegName) : (s.withAccess a).readReg r = s.readReg r := by
  cases r <;> rfl

/-- A read of a register leaves the state (20_memory.md R77). -/
theorem accessStage_read_offset (r : RegName) : accessStage (.read r.offset) s = .next s := by
  simp [accessStage, State.busRead, regAt_offset]

/-- A read of a register puts its word on `bus_rdata` (44_system.md R242). -/
theorem readDatum_read_offset (r : RegName) : readDatum (.read r.offset) s = some (s.readReg r) := by
  simp [readDatum, State.busRead, regAt_offset]

/-- The end of a clock uses up the coming clock's inputs, whatever they are. -/
theorem endClock_setInputs (div : Nat) (rxIn : Bool) (l : List ClockIn) :
    (s.setInputs l).endClock div rxIn = (s.endClock div rxIn).setInputs l.tail := by
  simp only [State.endClock, tickStage_setInputs]
  rfl

/-- The clock of an access that leaves the state alone depends on that access in the datum on `bus_rdata` only. -/
theorem step_withAccess_unchanged {a : Access} (h : accessStage a (s.withAccess a) = .next (s.withAccess a)) :
    step (s.withAccess a) = .next (((s.endClock Config.tickDiv s.nextInput.rxIn).setInputs s.inputs.tail).setReadData
      (readDatum a (s.withAccess a))) := by
  have hend : (s.withAccess a).endClock Config.tickDiv s.nextInput.rxIn =
      (s.endClock Config.tickDiv s.nextInput.rxIn).setInputs s.inputs.tail := endClock_setInputs s _ _ _
  simp [step, clockStep, h, endClock_setReadData, hend]

/-- A CTL_CYCLE reaches the transmit engine only through its automatic toggle (43_control_fsm.md R212). -/
theorem cycle_tx (m : Mode) : (s.cycle m).tx = if s.autoToggle then s.txStart.tx else s.tx := by
  unfold State.cycle
  cases s.autoToggle <;> rfl

/-- A cycle that is not refused toggles automatically only when a transmission can start (43_control_fsm.md R210, R215). -/
theorem txRefusal_of_autoToggle (hcycle : s.cycleRefusal = none) (htoggle : s.autoToggle = true) : s.txRefusal = none := by
  unfold State.cycleRefusal at hcycle
  cases hloop : s.ctl.loop with
  | outer => simp [hloop] at hcycle
  | active => simpa [hloop, htoggle] using hcycle

/-- A command leaves the transmit engine, or starts a transmission whose preconditions hold (42_tx_actuator.md R181). -/
theorem exec_tx_cases {i : Instr} {t : State} (h : exec i s = .next t) :
    t.tx = s.tx ∨ (s.txRefusal = none ∧ t.tx = s.txStart.tx) := by
  rcases exec_cases s h with rfl | ⟨_, rfl⟩ | ⟨e, _⟩ | ⟨_, hcmd⟩
  · exact .inl rfl
  · exact .inl rfl
  · rw [e]; exact .inl rfl
  · rcases hcmd with ⟨-, hok, rfl⟩ | ⟨-, rfl⟩ | ⟨-, rfl⟩ | ⟨-, rfl⟩ | ⟨-, -, rfl⟩ | ⟨m, -, -, rfl⟩ | ⟨m, -, hok, rfl⟩
    · exact .inr ⟨hok, rfl⟩
    · exact .inl rfl
    · exact .inl rfl
    · exact .inl rfl
    · exact .inl rfl
    · obtain ⟨_, _, _, _, _, htx, _⟩ := modePoll_kept s m
      exact .inl htx
    · rw [cycle_tx]
      split
      next htoggle => exact .inr ⟨txRefusal_of_autoToggle s hok htoggle, rfl⟩
      next => exact .inl rfl

/-- An access leaves the transmit engine, or is a command that starts a transmission whose preconditions hold. -/
theorem accessStage_tx_cases {a : Access} {u : State} (h : accessStage a s = .next u) :
    u.tx = s.tx ∨ (s.txRefusal = none ∧ u.tx = s.txStart.tx) := by
  rcases accessStage_cases s h with rfl | ⟨e, _⟩ | ⟨_, _, _, _, rfl⟩ | ⟨_, _, _, _, hexec⟩ | ⟨_, _, rfl⟩ |
    ⟨_, _, _, rfl⟩ | ⟨_, _, _, rfl⟩ | ⟨_, _, _, rfl⟩ | ⟨_, _, _, rfl⟩ | ⟨_, _, rfl⟩ | ⟨_, _, rfl⟩
  case inr.inl => rw [e]; exact .inl rfl
  case inr.inr.inr.inl => exact exec_tx_cases s hexec
  all_goals exact .inl rfl

/-- No access writes the engine of a transmission in progress: the only start is refused while it is busy (42_tx_actuator.md R181). -/
theorem accessStage_tx_of_busy {a : Access} {u : State} (hbusy : s.tx.busy = true) (h : accessStage a s = .next u) :
    u.tx = s.tx := by
  rcases accessStage_tx_cases s h with htx | ⟨hok, _⟩
  · exact htx
  · obtain ⟨hidle, _, _⟩ := (txRefusal_none_iff s).1 hok
    rw [hbusy] at hidle
    cases hidle

/-- A tick of the transmit engine moves along the segment list; it writes neither the list nor the snapshot. -/
theorem txTick_snap_seq (p : TxPort) :
    p.tick.engine.snap = p.engine.snap ∧ p.tick.engine.seq = p.engine.seq := by
  rcases txTick_cases p with ⟨_, e⟩ | ⟨_, _, e⟩ | ⟨_, _, _, e⟩ <;> rw [e] <;> exact ⟨rfl, rfl⟩

/-- The engine's part of a clock writes neither the segment list nor the snapshot. -/
theorem txStage_snap_seq (c : Bool) :
    (s.txStage c).tx.snap = s.tx.snap ∧ (s.txStage c).tx.seq = s.tx.seq := by
  rcases txStage_cases s c with ⟨_, e⟩ | ⟨_, _, e⟩ <;> rw [e]
  · exact ⟨rfl, rfl⟩
  · exact txTick_snap_seq s.txPort

/-- The end of a clock writes neither the segment list nor the snapshot, whether or not it carries a tick. -/
theorem endClock_snap_seq (div : Nat) (rxIn : Bool) :
    (s.endClock div rxIn).tx.snap = s.tx.snap ∧ (s.endClock div rxIn).tx.seq = s.tx.seq := by
  by_cases htick : s.tickCnt = div - 1
  · obtain ⟨htx, _, _⟩ := endClock_tick_tx s rxIn htick
    rw [htx]
    exact txStage_snap_seq s true
  · obtain ⟨_, _, _, htx, _⟩ := endClock_noTick s rxIn htick
    rw [htx]
    exact ⟨rfl, rfl⟩

end MemoryRules

/-- Settles O28: an idle bus and a read of a register both leave the state alone, so their clocks differ in `bus_rdata` only. -/
theorem readsHaveNoSideEffect : Obligations.ReadsHaveNoSideEffect := by
  unfold Obligations.ReadsHaveNoSideEffect
  intro s r
  have hread := step_withAccess_unchanged s (accessStage_read_offset (s.withAccess (.read r.offset)) r)
  rw [readDatum_read_offset, readReg_withAccess] at hread
  exact ⟨_, step_withAccess_unchanged s rfl, hread⟩

/-- Settles O48: no access writes a busy engine, and a tick moves only its position in the list. -/
theorem snapshotKeptWhileBusy : Obligations.SnapshotKeptWhileBusy := by
  unfold Obligations.SnapshotKeptWhileBusy
  intro s t hrst hbusy hstep
  obtain ⟨u, hu, rfl⟩ := step_out_of_reset s hrst hstep
  rw [State.setReadData_tx, ← accessStage_tx_of_busy s hbusy hu]
  exact endClock_snap_seq u Config.tickDiv s.nextInput.rxIn

end Sys2Proof.Machine

/-! ### Command words: the decoder, the encoder and the three checks of a legal word -/

namespace Sys2Proof

section CommandWords

variable {w : Word} {i : Instr}

/-- A word whose RES field is 0 is the CMD32 word of its OP and M fields (30_encoding.md R91). -/
theorem eq_cmdWord_of_res_zero (h : w.extractLsb' 9 23 = 0) : w = cmdWord (w.extractLsb' 0 8) (w.getLsbD 8) := by
  refine BitVec.eq_of_getLsbD_eq fun k hk => ?_
  have hres : w.getLsbD (9 + (k - 9)) = false := by
    have hfield := congrArg (BitVec.getLsbD · (k - 9)) h
    simp only [BitVec.getLsbD_extractLsb', BitVec.ofNat_eq_ofNat, BitVec.getLsbD_zero] at hfield
    simpa [show k - 9 < 23 by omega] using hfield
  simp only [cmdWord, BitVec.getLsbD_append]
  split
  next hop => simp [hop]
  split
  next hm =>
    obtain rfl : k = 8 := by omega
    simp
  next hm =>
    rw [show k = 9 + (k - 9) by omega, hres]
    simp

/-- The encoder's word of each command, in each of its modes, is read back as that command. -/
theorem decode_encode (i : Instr) : decode (encode i) = some i := by
  cases i with
  | ctlMode m => cases m <;> decide
  | ctlCycle m => cases m <;> decide
  | _ => decide

/-- The decoder reads a command from no word but its own: RES is 0, the branch taken fixes OP, and M is the mode or 0. -/
theorem eq_encode_of_decode (h : decode w = some i) : w = encode i := by
  unfold decode at h
  split at h
  · cases h
  next hres =>
  rw [eq_cmdWord_of_res_zero (not_not.1 hres)]
  generalize w.extractLsb' 0 8 = op, w.getLsbD 8 = m at h ⊢
  simp only at h
  split_ifs at h with hmode hcycle hm hnop hsend hack hclear hrxAck hcapture hfault <;> cases h <;> subst op
  · cases m <;> rfl
  · cases m <;> rfl
  all_goals rw [Bool.eq_false_iff.2 hm]; rfl

/-- The words that decode to a command: its own, and no other (30_encoding.md R94, R97). -/
theorem decode_eq_some_iff : decode w = some i ↔ w = encode i :=
  ⟨eq_encode_of_decode, fun h => h ▸ decode_encode i⟩

/-- The commands of the opcode map, both modes of CTL_MODE and CTL_CYCLE among them (30_encoding.md R94). -/
def allInstrs : List Instr :=
  [.nop, .txSend, .txAck, .profClear, .rxAck, .rxCapture, .ctlMode .notOn, .ctlMode .on, .ctlCycle .notOn, .ctlCycle .on,
   .faultClear]

/-- The list leaves no command out. -/
theorem mem_allInstrs (i : Instr) : i ∈ allInstrs := by
  cases i with
  | ctlMode m => cases m <;> decide
  | ctlCycle m => cases m <;> decide
  | _ => decide

/-- A word is illegal exactly when it is the word of no command. -/
theorem decode_eq_none_iff : decode w = none ↔ w ∉ allInstrs.map encode := by
  have hword : w ∈ allInstrs.map encode ↔ ∃ i, decode w = some i := by
    simp only [List.mem_map, mem_allInstrs, true_and, decode_eq_some_iff, eq_comm (a := w)]
  rw [hword, ← Option.isSome_iff_exists, Option.not_isSome_iff_eq_none]

/-- The word of a command passes the three checks of 30_encoding.md R93. -/
theorem wellFormedWord_encode (i : Instr) : wellFormedWord (encode i) = true := by
  have hlegal : Laws.EncodesLegalWord.Statement i := by
    cases i with
    | nop => exact Laws.EncodesLegalWord.nop
    | txSend => exact Laws.EncodesLegalWord.txSend
    | txAck => exact Laws.EncodesLegalWord.txAck
    | profClear => exact Laws.EncodesLegalWord.profClear
    | rxAck => exact Laws.EncodesLegalWord.rxAck
    | rxCapture => exact Laws.EncodesLegalWord.rxCapture
    | ctlMode m => exact Laws.EncodesLegalWord.ctlMode m
    | ctlCycle m => exact Laws.EncodesLegalWord.ctlCycle m
    | faultClear => exact Laws.EncodesLegalWord.faultClear
  obtain ⟨_, hword⟩ := hlegal
  exact hword

/-- The three checks, as conditions on the fields of the word (30_encoding.md R93). -/
theorem wellFormedWord_iff : wellFormedWord w = true ↔
    w.extractLsb' 9 23 = 0 ∧ w.extractLsb' 0 8 ∈ assignedOps ∧
      (w.getLsbD 8 = true → w.extractLsb' 0 8 ∈ modeOps) := by
  simp [wellFormedWord, Cmd32.wellFormed, Cmd32.resOk, Cmd32.opOk, Cmd32.modeOk, Cmd32.ofWord, and_assoc, imp_iff_not_or]

/-- A word that fails a check is illegal: it is no command's word, since those pass. -/
theorem decode_eq_none_of_not_wellFormed (h : ¬ wellFormedWord w = true) : decode w = none := by
  refine Option.eq_none_iff_forall_ne_some.2 fun i hi => h ?_
  rw [eq_encode_of_decode hi]
  exact wellFormedWord_encode i

end CommandWords

/-- Settles O1: a command's word is the one the decoder reads it from. -/
theorem decodeOfEncode : Obligations.DecodeOfEncode := by
  unfold Obligations.DecodeOfEncode
  exact fun i _ => decode_encode i

/-- Settles O2: a command's word is its encoding, and the words of the list are the encodings of all commands. -/
theorem commandWordsAreTheMap : Obligations.CommandWordsAreTheMap := by
  unfold Obligations.CommandWordsAreTheMap
  intro w
  have hword : ∀ i, decode w = some i ↔ w = encode i := fun _ => decode_eq_some_iff
  exact ⟨hword .nop, hword .txSend, hword .txAck, hword .profClear, hword .rxAck, hword .rxCapture,
    hword (.ctlMode .notOn), hword (.ctlMode .on), hword (.ctlCycle .notOn), hword (.ctlCycle .on), hword .faultClear,
    decode_eq_none_iff⟩

/-- Settles O4: the legal words are encodings, and each of the others fails a check: M on NOP, an unassigned OP, a bit of RES. -/
theorem listedWordsDecode : Obligations.ListedWordsDecode := by
  unfold Obligations.ListedWordsDecode
  exact ⟨decode_encode .txSend, decode_encode (.ctlMode .notOn), decode_encode (.ctlCycle .on), decode_encode .faultClear,
    decode_eq_none_of_not_wellFormed (by decide), decode_eq_none_of_not_wellFormed (by decide),
    decode_eq_none_of_not_wellFormed (by decide), decode_eq_none_of_not_wellFormed (by decide)⟩

end Sys2Proof

/-! ### The issue of a command word, and the step that carries it -/

namespace Sys2Proof.Machine

section CommandIssue

variable (s : State)

/-- The word of a command runs that command (30_encoding.md R98). -/
theorem issue_of_decode_some {w : Word} {i : Instr} (h : decode w = some i) : issue w s = exec i s := by
  simp [issue, h]

/-- An illegal word runs no command (30_encoding.md R93). -/
theorem issue_of_decode_none {w : Word} (h : decode w = none) : issue w s = .next (s.illegalCmd w) := by
  simp [issue, h]

/-- A write at a register's offset is the write of that register (44_system.md R243). -/
theorem busWrite_offset (r : RegName) (v : Word) : busWrite r.offset v s = writeReg r v s := by
  simp [busWrite, regAt_offset]

/-- A write to CMD issues its word (30_encoding.md R90). -/
theorem busWrite_cmd (w : Word) : busWrite 0x0C w s = issue w s := busWrite_offset s .cmd w

/-- An illegal word with no fault recorded records ILLEGAL_CMD, the word and the CMD write, and nothing else. -/
theorem illegalCmd_of_no_fault {w : Word} (h : s.fault.code = .none) :
    s.illegalCmd w = Safety.faulted s .illegalCmd w cmdAddr := by
  rw [State.illegalCmd, unlessBlocked_run s _ h]
  rcases raise_cases s .illegalCmd w cmdAddr with ⟨_, e⟩ | ⟨hne, _⟩
  · exact e
  · exact absurd h hne

/-- An illegal word is blocked like any command: it sets OVERFLOW and nothing else (60_exceptions.md R264). -/
theorem illegalCmd_of_fault {w : Word} (h : s.fault.code ≠ .none) :
    s.illegalCmd w = s.setFault { s.fault with overflow := true } := by
  rw [State.illegalCmd, unlessBlocked_blocked s _ h]

/-- A clock out of reset whose access completes goes on to the end of the clock (00_scope.md R8). -/
theorem step_of_accessStage {a : Access} {u : State} {d : Option Word} (hrst : s.nextInput.rstN = true)
    (ha : s.nextInput.access = a) (h : accessStage a s = .next u) (hd : readDatum a s = d) :
    step s = .next ((u.setReadData d).endClock Config.tickDiv s.nextInput.rxIn) := by
  simp [step, clockStep, hrst, ha, h, hd]

/-- A clock out of reset that carries a write goes on from the state the write leaves, with no read datum. -/
theorem step_of_busWrite {off : Offset} {v : Word} {u : State} (hrst : s.nextInput.rstN = true)
    (ha : s.nextInput.access = .write off v) (h : busWrite off v s = .next u) :
    step s = .next ((u.setReadData none).endClock Config.tickDiv s.nextInput.rxIn) :=
  step_of_accessStage s hrst ha h rfl

end CommandIssue

/-- Settles O3: such a word fails a check of the decoder, and what an illegal word does depends on the fault record alone. -/
theorem illegalCommandFaults : Obligations.IllegalCommandFaults := by
  unfold Obligations.IllegalCommandFaults
  intro w s hbad
  have hnone : decode w = none := by
    refine decode_eq_none_of_not_wellFormed fun hlegal => ?_
    obtain ⟨hres, hop, hmode⟩ := wellFormedWord_iff.1 hlegal
    rcases hbad with hbadRes | hbadOp | ⟨hm, hne10, hne11⟩
    · exact hbadRes hres
    · exact hbadOp hop
    · rcases List.mem_pair.1 (hmode hm) with h10 | h11
      · exact hne10 h10
      · exact hne11 h11
  rw [issue_of_decode_none s hnone]
  exact ⟨fun hclear => congrArg _ (illegalCmd_of_no_fault s hclear), fun hfault => congrArg _ (illegalCmd_of_fault s hfault)⟩

/-- Settles O5: each form of access completes with the state named, and the end of the clock follows; a write to CMD of a command's
word completes as that command does. -/
theorem stepRunsCommand : Obligations.StepRunsCommand := by
  unfold Obligations.StepRunsCommand
  intro s hrst
  refine ⟨fun w i t ha hdecode hexec => ?_, fun ha => step_of_accessStage s hrst ha rfl rfl,
    fun off ha => step_of_accessStage s hrst ha rfl rfl, fun off v t ha hwrite => step_of_busWrite s hrst ha hwrite,
    busWrite_cmd s⟩
  have hwrite : busWrite 0x0C w s = .next t := by
    rw [busWrite_cmd, issue_of_decode_some s hdecode, hexec]
  exact step_of_busWrite s hrst ha hwrite

end Sys2Proof.Machine

/-! ### The segment list of a transmission: its shape and its length -/

namespace Sys2Proof.Machine

section SegmentLists

open Sys2Proof.Safety

/-- A list of segments none of which is empty, whose levels alternate, the first one being `b` (40_pulse_codec.md R117, R120). -/
def Alternating (b : Bool) : List Segment → Prop
  | [] => True
  | g :: rest => (g.level = b ∧ 1 ≤ g.ticks) ∧ Alternating (!b) rest

/-- After a list of even length the levels alternate from `b` again. -/
theorem alternating_append {b : Bool} {l₁ l₂ : List Segment} (h₁ : Alternating b l₁) (heven : l₁.length % 2 = 0)
    (h₂ : Alternating b l₂) : Alternating b (l₁ ++ l₂) := by
  match l₁, h₁ with
  | [], _ => exact h₂
  | [_], _ => cases heven
  | g :: g' :: rest, ⟨hg, hg', hrest⟩ =>
    rw [Bool.not_not] at hrest
    refine ⟨hg, hg', ?_⟩
    rw [Bool.not_not]
    exact alternating_append hrest (by simp only [List.length_cons] at heven; omega) h₂

/-- The level of a segment is told by the parity of its place. -/
theorem alternating_getElem? {b : Bool} {l : List Segment} {k : Nat} {g : Segment} (h : Alternating b l)
    (hk : l[k]? = some g) : 1 ≤ g.ticks ∧ (g.level = b ↔ k % 2 = 0) := by
  induction l generalizing b k with
  | nil => cases hk
  | cons g' rest ih =>
    obtain ⟨⟨hlevel, hticks⟩, hrest⟩ := h
    cases k with
    | zero =>
      cases hk
      exact ⟨hticks, by simp [hlevel]⟩
    | succ j =>
      obtain ⟨hpos, hparity⟩ := ih hrest hk
      have hnext : (j + 1) % 2 = 0 ↔ ¬ j % 2 = 0 := by omega
      exact ⟨hpos, by rw [hnext, ← hparity, Bool.eq_not, not_not]⟩

/-- A symbol is a high, then a low (40_pulse_codec.md R117). -/
theorem symbol_alternating {high low t : Nat} (hhigh : 1 ≤ high) (hlow : 1 ≤ low) (ht : 1 ≤ t) :
    Alternating true (symbol high low t) :=
  ⟨⟨rfl, Nat.mul_pos hhigh ht⟩, ⟨rfl, Nat.mul_pos hlow ht⟩, trivial⟩

/-- A data bit is two segments (40_pulse_codec.md R117). -/
@[simp] theorem bitSymbol_length (tm : Timing) (t : Nat) (b : Bool) : (bitSymbol tm t b).length = 2 := by
  cases b <;> rfl

/-- The data bits of a frame are two segments each (40_pulse_codec.md R118). -/
@[simp] theorem dataSegments_length (tm : Timing) (t : Nat) (c : Word) (n : Nat) :
    (dataSegments tm t c n).length = 2 * n := by
  induction n with
  | zero => rfl
  | succ k ih =>
    rw [dataSegments, List.length_append, bitSymbol_length, ih]
    ring

/-- A frame is `2n + 2` segments (40_pulse_codec.md R119). -/
theorem frameSegments_length (tm : Timing) (t : Nat) (c : Word) (n : Nat) :
    (frameSegments tm t c n).length = 2 * n + 2 := by
  simp [frameSegments, symbol]

/-- Every high and every low of a protocol's symbols lasts at least one pulse unit. -/
structure PositiveTiming (tm : Timing) : Prop where
  sync : 1 ≤ tm.syncHigh ∧ 1 ≤ tm.syncLow
  zero : 1 ≤ tm.zeroHigh ∧ 1 ≤ tm.zeroLow
  one : 1 ≤ tm.oneHigh ∧ 1 ≤ tm.oneLow

/-- The six rows of PROTO_TABLE have no zero in them (40_pulse_codec.md R116). -/
theorem timing_positive {p : Nat} (h : 1 ≤ p ∧ p ≤ Config.nProto) : PositiveTiming (timing p) := by
  obtain ⟨hlo, hhi⟩ := h
  rw [Config.nProto] at hhi
  interval_cases p <;> exact ⟨by decide, by decide, by decide⟩

/-- The symbol of a bit is not empty and goes from high to low. -/
theorem bitSymbol_alternating {tm : Timing} {t : Nat} (htm : PositiveTiming tm) (ht : 1 ≤ t) (b : Bool) :
    Alternating true (bitSymbol tm t b) := by
  obtain ⟨-, ⟨hzh, hzl⟩, hoh, hol⟩ := htm
  cases b
  · exact symbol_alternating hzh hzl ht
  · exact symbol_alternating hoh hol ht

/-- The data bits of a frame alternate from high. -/
theorem dataSegments_alternating {tm : Timing} {t : Nat} (htm : PositiveTiming tm) (ht : 1 ≤ t) (c : Word) (n : Nat) :
    Alternating true (dataSegments tm t c n) := by
  induction n with
  | zero => trivial
  | succ k ih =>
    exact alternating_append (bitSymbol_alternating htm ht _) (by simp) ih

/-- A frame alternates from high: after an even number of data segments comes the sync symbol (40_pulse_codec.md R119). -/
theorem frameSegments_alternating {tm : Timing} {t : Nat} (htm : PositiveTiming tm) (ht : 1 ≤ t) (c : Word) (n : Nat) :
    Alternating true (frameSegments tm t c n) := by
  obtain ⟨hsh, hsl⟩ := htm.sync
  exact alternating_append (dataSegments_alternating htm ht c n) (by simp) (symbol_alternating hsh hsl ht)

/-- Lists of even length that alternate from `b`, back to back, alternate from `b`. -/
theorem alternating_flatten_replicate {b : Bool} {l : List Segment} (h : Alternating b l) (heven : l.length % 2 = 0) (r : Nat) :
    Alternating b (List.replicate r l).flatten := by
  induction r with
  | zero => trivial
  | succ k ih =>
    rw [List.replicate_succ, List.flatten_cons]
    exact alternating_append h heven ih

/-- The segment list of a profile in range alternates from high (40_pulse_codec.md R120). -/
theorem segments_alternating {p : Profile} (hp : ProfileInRange p) : Alternating true p.segments := by
  refine alternating_flatten_replicate (frameSegments_alternating (timing_positive hp.proto) hp.pulse _ _) ?_ _
  rw [frameSegments_length]
  omega

/-- A transmission is `repeat_count` frames of `2n + 2` segments (40_pulse_codec.md R120). -/
theorem segments_length (p : Profile) : p.segments.length = p.reps.toNat * (2 * p.bits.toNat + 2) := by
  simp [Profile.segments, frameSegments_length]

/-- The length of two lists back to back. -/
theorem totalTicks_append (l₁ l₂ : List Segment) : totalTicks (l₁ ++ l₂) = totalTicks l₁ + totalTicks l₂ := by
  simp [totalTicks]

/-- The length of a symbol (40_pulse_codec.md R117). -/
theorem totalTicks_symbol (high low t : Nat) : totalTicks (symbol high low t) = t * (high + low) := by
  simp [totalTicks, symbol]
  ring

/-- The length of the data bits of a frame (40_pulse_codec.md R121). -/
theorem totalTicks_dataSegments (tm : Timing) (t : Nat) (c : Word) (n : Nat) :
    totalTicks (dataSegments tm t c n) = t * dataUnits tm c n := by
  induction n with
  | zero => rfl
  | succ k ih =>
    have hbit : totalTicks (bitSymbol tm t (c.getLsbD k)) =
        t * if c.getLsbD k then tm.oneHigh + tm.oneLow else tm.zeroHigh + tm.zeroLow := by
      cases c.getLsbD k <;> exact totalTicks_symbol _ _ _
    rw [dataSegments, totalTicks_append, hbit, ih, dataUnits, Nat.mul_add]

/-- The length of a transmission, whatever the profile (40_pulse_codec.md R121). -/
theorem totalTicks_segments (p : Profile) : totalTicks p.segments = p.reps.toNat * p.frameTicks := by
  have hframe : totalTicks (frameSegments (timing p.proto.toNat) p.pulse.toNat p.code p.bits.toNat) = p.frameTicks := by
    rw [frameSegments, totalTicks_append, totalTicks_dataSegments, totalTicks_symbol, Profile.frameTicks]
    ring
  rw [Profile.segments]
  induction p.reps.toNat with
  | zero => exact (Nat.zero_mul _).symm
  | succ r ih => rw [List.replicate_succ, List.flatten_cons, totalTicks_append, hframe, ih]; ring

/-- The data bits count a zero symbol for each 0 bit of the code and a one symbol for each 1 bit (40_pulse_codec.md R121). -/
theorem dataUnits_eq_countP (tm : Timing) (c : Word) (n : Nat) :
    dataUnits tm c n = (tm.zeroHigh + tm.zeroLow) * (List.range n).countP (fun k => !c.getLsbD k) +
      (tm.oneHigh + tm.oneLow) * (List.range n).countP (fun k => c.getLsbD k) := by
  induction n with
  | zero => rfl
  | succ k ih =>
    rw [dataUnits, ih]
    cases hb : c.getLsbD k <;> simp [List.range_succ, hb] <;> ring

/-- Where the zero and the one symbol have the same length, every data bit counts it. -/
theorem dataUnits_of_uniform {tm : Timing} {u : Nat} (hzero : tm.zeroHigh + tm.zeroLow = u) (hone : tm.oneHigh + tm.oneLow = u)
    (c : Word) (n : Nat) : dataUnits tm c n = u * n := by
  induction n with
  | zero => rfl
  | succ k ih => rw [dataUnits, hzero, hone, ite_self, ih]; ring

/-- `F` under a protocol whose zero and one symbols have the same length: `s` units of sync and `u` for each bit. -/
theorem frameTicks_of_uniform {p : Profile} {q : BitVec 8} {s u : Nat} (hq : p.proto = q)
    (hsync : (timing q.toNat).syncHigh + (timing q.toNat).syncLow = s)
    (hzero : (timing q.toNat).zeroHigh + (timing q.toNat).zeroLow = u)
    (hone : (timing q.toNat).oneHigh + (timing q.toNat).oneLow = u) :
    p.frameTicks = p.pulse.toNat * (s + u * p.bits.toNat) := by
  rw [Profile.frameTicks, hq, hsync, dataUnits_of_uniform hzero hone]

/-- `F` under protocol 6, whose zero symbol is 6 units long and whose one symbol is 2 (40_pulse_codec.md R121). -/
theorem frameTicks_protocol_six {p : Profile} (hq : p.proto = 6) :
    p.frameTicks = p.pulse.toNat * (11 +
      6 * (List.range p.bits.toNat).countP (fun k => !p.code.getLsbD k) +
      2 * (List.range p.bits.toNat).countP (fun k => p.code.getLsbD k)) := by
  rw [Profile.frameTicks, hq, dataUnits_eq_countP, ← Nat.add_assoc]
  rfl

end SegmentLists

/-- Settles O46: a frame is an even number of segments that alternate from high, and so are frames back to back. -/
theorem segmentListShape : Obligations.SegmentListShape := by
  unfold Obligations.SegmentListShape
  exact fun p hp => ⟨segments_length p, fun _ _ hg => alternating_getElem? (segments_alternating hp) hg⟩

/-- Settles O47: five protocols have zero and one symbols of the same length; under protocol 6 the bits are counted. -/
theorem transmissionLength : Obligations.TransmissionLength := by
  unfold Obligations.TransmissionLength
  exact ⟨fun p => ⟨totalTicks_segments p, fun hp => frameTicks_of_uniform hp rfl rfl rfl,
    fun hp => frameTicks_of_uniform hp rfl rfl rfl, fun hp => frameTicks_of_uniform hp rfl rfl rfl,
    fun hp => frameTicks_of_uniform hp rfl rfl rfl, fun hp => frameTicks_of_uniform hp rfl rfl rfl,
    frameTicks_protocol_six⟩, rfl, rfl, rfl, rfl, rfl, rfl⟩

end Sys2Proof.Machine

/-! ### A protocol-1 frame between two matching gaps decodes to its code -/

namespace Sys2Proof.Machine

section FrameDecoding

/-- A number differs from itself by nothing (00_scope.md R6). -/
@[simp] theorem absDiff_self (a : Nat) : absDiff a a = 0 := by simp [absDiff]

/-- From a pulse length of 2 ticks on the tolerance is not 0 (41_rx_decoder.md R148). -/
theorem tolerance_pos {t : Nat} (ht : 2 ≤ t) : 0 < tolerance t := by
  simp only [tolerance, Config.rxTolPct]
  omega

/-- The intervals of a symbol match that symbol (41_rx_decoder.md R149). -/
theorem matchesSymbol_symbol {t tol : Nat} (htol : 0 < tol) (high low : Nat) :
    matchesSymbol t tol high low (high * t) (low * t) = true := by
  simp [matchesSymbol, Nat.mul_comm t, htol]

/-- The protocol-1 one symbol is no zero symbol: its high is off by two pulse lengths, which is more than 80 % of one. -/
theorem matchesSymbol_zero_of_one (t : Nat) : matchesSymbol t (tolerance t) 1 3 (3 * t) (1 * t) = false := by
  have hoff : ¬ absDiff (3 * t) (t * 1) < tolerance t := by
    simp only [absDiff, tolerance, Config.rxTolPct]
    omega
  rw [matchesSymbol, decide_eq_false hoff, Bool.false_and]

/-- The decoder reads back, in front of any intervals, the bit whose protocol-1 symbol was sent (40_pulse_codec.md R118,
41_rx_decoder.md R149). -/
theorem decodeBits_bitSymbol {t : Nat} (ht : 2 ≤ t) (b : Bool) (rest : List Nat) (code : Nat) :
    decodeBits (timing 1) t (tolerance t) ((bitSymbol (timing 1) t b).map Segment.ticks ++ rest) code =
      decodeBits (timing 1) t (tolerance t) rest (code * 2 + b.toNat) := by
  have hbit : decodeBit (timing 1) t (tolerance t) (if b then 3 * t else 1 * t) (if b then 1 * t else 3 * t) = some b := by
    cases b with
    | false => exact if_pos (matchesSymbol_symbol (tolerance_pos ht) 1 3)
    | true =>
      exact (if_neg (Bool.eq_false_iff.1 (matchesSymbol_zero_of_one t))).trans
        (if_pos (matchesSymbol_symbol (tolerance_pos ht) 3 1))
  have hsymbol : (bitSymbol (timing 1) t b).map Segment.ticks = [if b then 3 * t else 1 * t, if b then 1 * t else 3 * t] := by
    cases b <;> rfl
  rw [hsymbol, List.cons_append, List.cons_append, List.nil_append, decodeBits, hbit]

/-- The data intervals of a frame shift the low `n` bits of its code into the code so far; the sync high after them is not
examined (41_rx_decoder.md R153). -/
theorem decodeBits_dataSegments {t : Nat} (ht : 2 ≤ t) (c : Word) (n syncHigh code : Nat) :
    decodeBits (timing 1) t (tolerance t) ((dataSegments (timing 1) t c n).map Segment.ticks ++ [syncHigh]) code =
      some (code * 2 ^ n + c.toNat % 2 ^ n) := by
  induction n generalizing code with
  | zero => simp [dataSegments, decodeBits, Nat.mod_one]
  | succ k ih =>
    rw [dataSegments, List.map_append, List.append_assoc, decodeBits_bitSymbol ht, ih, Nat.mod_pow_succ,
      ← Nat.toNat_testBit, BitVec.testBit_toNat]
    congr 1
    ring

/-- Protocol 1 reads a frame of its own after a gap of `31 * t` ticks: the pulse length is that gap over 31
(41_rx_decoder.md R148, R151). -/
theorem tryProtocol_dataSegments {c : Word} {t n : Nat} (syncHigh : Nat) (ht : 2 ≤ t) (ht' : t ≤ 65535) (hc : c ≠ 0)
    (hcn : c.toNat < 2 ^ n) :
    tryProtocol ((dataSegments (timing 1) t c n).map Segment.ticks ++ [syncHigh]) (31 * t) n 1 =
      some { code := c.toNat, proto := 1, pulse := t, bits := n } := by
  have hpulse : estPulse (timing 1) (31 * t) = t := Nat.mul_div_cancel_left t (by decide)
  have hrange : ¬ (t < 1 ∨ 65535 < t) := by omega
  have hcode : c.toNat ≠ 0 := fun h => hc (BitVec.eq_of_toNat_eq h)
  simp only [tryProtocol, hpulse, if_neg hrange, decodeBits_dataSegments ht, Nat.zero_mul, Nat.zero_add,
    Nat.mod_eq_of_lt hcn, if_pos hcode]

/-- A buffer of `n` data bits and a sync high between matching gaps gives what protocol 1 reads, the protocol tried first
(41_rx_decoder.md R145, R150). -/
theorem rxDecode_of_protocol_one {buf : List Nat} {gp gn n : Nat} {r : Reception} (hgap : absDiff gn gp < Config.rxGapMatch)
    (hlen : buf.length = 2 * n + 1) (hn : Config.rxMinBits ≤ n ∧ n ≤ Config.rxMaxBits)
    (htry : tryProtocol buf gp n 1 = some r) : rxDecode buf gp gn = some r := by
  have hbits : (buf.length - 1) / 2 = n := by omega
  have hodd : ¬ buf.length % 2 = 0 := by omega
  have hfirst : protocols.findSome? (tryProtocol buf gp n) = some r := by
    rw [show protocols = [1, 2, 3, 4, 5, 6] from rfl, List.findSome?_cons, htry]
  simp only [rxDecode, hbits, if_neg (Nat.not_le.2 hgap), if_neg hodd,
    if_neg (not_or.2 ⟨Nat.not_lt.2 hn.1, Nat.not_lt.2 hn.2⟩), hfirst]

end FrameDecoding

/-- Settles O50, by induction over the data bits: each pair of intervals adds its bit to the code. -/
theorem frameDecodes : Obligations.FrameDecodes := by
  unfold Obligations.FrameDecodes
  intro c t n syncHigh gn ht ht' hn hn' hc hcn hgap
  refine rxDecode_of_protocol_one hgap ?_ ⟨hn, hn'⟩ (tryProtocol_dataSegments syncHigh (by omega) ht' hc hcn)
  rw [List.length_append, List.length_map, dataSegments_length, List.length_singleton]

end Sys2Proof.Machine

/-! ### A decoder that hears the waveform of a burst -/

namespace Sys2Proof.Machine

section Hearing

open Sys2Proof.Safety

/-- A sample, then the rest of them. -/
theorem feed_cons {b : Bool} {l : List Bool} {x y z : RxDecoder} {o : Option Reception} {out : List Reception}
    (hb : x.tick b = (y, o)) (hl : feed l y = (z, out)) : feed (b :: l) x = (z, o.toList ++ out) := by
  rw [feed, hb, hl]

/-- The second list of samples meets the decoder that the first one leaves. -/
theorem feed_append {l₁ l₂ : List Bool} {x y z : RxDecoder} {out₁ out₂ : List Reception} (h₁ : feed l₁ x = (y, out₁))
    (h₂ : feed l₂ y = (z, out₂)) : feed (l₁ ++ l₂) x = (z, out₁ ++ out₂) := by
  induction l₁ generalizing x out₁ with
  | nil => cases h₁; exact h₂
  | cons b rest ih =>
    obtain ⟨rfl, rfl⟩ := Prod.mk.inj h₁
    rw [List.append_assoc]
    exact feed_cons (Prod.eta _).symm (ih rfl)

/-- The waveform of a list is that of its first segment, then that of the others. -/
theorem waveform_cons (g : Segment) (l : List Segment) :
    waveform (g :: l) = List.replicate g.ticks g.level ++ waveform l := rfl

/-- The waveforms of two lists back to back. -/
theorem waveform_append (l₁ l₂ : List Segment) : waveform (l₁ ++ l₂) = waveform l₁ ++ waveform l₂ := List.flatMap_append

/-- `m` increments of an interval length, saturating (00_scope.md R6). -/
def satAdd (d : Dur) (m : Nat) : Dur := BitVec.ofNat 24 (min (d.toNat + m) Config.durMax)

/-- No increment leaves the length. -/
theorem satAdd_zero (d : Dur) : satAdd d 0 = d := by
  have hmax : d.toNat + 0 ≤ Config.durMax := Nat.le_sub_one_of_lt d.isLt
  rw [satAdd, Nat.min_eq_left hmax, Nat.add_zero, BitVec.ofNat_toNat, BitVec.setWidth_eq]

/-- One increment, then `m` more. -/
theorem satAdd_satInc (d : Dur) (m : Nat) : satAdd (satInc d) m = satAdd d (m + 1) := by
  have hfits : min (d.toNat + 1) Config.durMax < 2 ^ 24 := by simp only [Config.durMax]; omega
  rw [satAdd, satInc, BitVec.toNat_ofNat, Nat.mod_eq_of_lt hfits, satAdd]
  congr 1
  omega

/-- Samples at the level of the line lengthen the interval and decode nothing (41_rx_decoder.md R142). -/
theorem feed_replicate_level {x : RxDecoder} {b : Bool} (hprimed : x.primed = true) (hlevel : x.level = b) (m : Nat) :
    feed (List.replicate m b) x = ({ x with dur := satAdd x.dur m }, []) := by
  induction m generalizing x with
  | zero => rw [satAdd_zero]; rfl
  | succ k ih =>
    have htick : x.tick b = ({ x with dur := satInc x.dur }, none) := by simp [RxDecoder.tick, hprimed, hlevel]
    have hrest := ih (x := { x with dur := satInc x.dur }) hprimed hlevel
    rw [List.replicate_succ, feed_cons htick hrest, satAdd_satInc]
    rfl

/-- The length of a segment as the decoder holds it. -/
def Segment.interval (g : Segment) : Dur := BitVec.ofNat 24 g.ticks

/-- A segment that lasts at least one tick and is not so long that the decoder's measure saturates. -/
def Measurable (g : Segment) : Prop := 1 ≤ g.ticks ∧ g.ticks ≤ Config.durMax

/-- The decoder's measure of a segment is its length. -/
theorem interval_toNat {g : Segment} (hg : Measurable g) : g.interval.toNat = g.ticks := by
  obtain ⟨-, hmax⟩ := hg
  simp only [Config.durMax] at hmax
  exact Nat.mod_eq_of_lt (by omega)

/-- The decoder at the last tick of a segment: whether there was a gap, its length, and the intervals since. -/
def hearing (g : Segment) (haveRef : Bool) (gprev : Dur) (buf : List Dur) : RxDecoder :=
  { primed := true, level := g.level, seenEdge := true, dur := BitVec.ofNat 24 (g.ticks - 1),
    haveRef := haveRef, gprev := gprev, buf := buf, ovf := false }

/-- The decoder after an idle line: low, no edge seen (41_rx_decoder.md R140, R142). -/
def idling (d : Dur) : RxDecoder := { RxDecoder.initial with primed := true, dur := d }

/-- At least one tick of idle line leaves the decoder idling. -/
theorem feed_idle {idle : Nat} (h : 1 ≤ idle) :
    ∃ d, feed (List.replicate idle false) RxDecoder.initial = (idling d, []) := by
  obtain ⟨m, rfl⟩ := Nat.exists_eq_add_of_le' h
  have hprime : RxDecoder.initial.tick false = (idling 0, none) := rfl
  refine ⟨satAdd 0 m, ?_⟩
  rw [List.replicate_succ]
  exact feed_cons hprime (feed_replicate_level (x := idling 0) rfl rfl m)

/-- An edge, and the rest of the segment it begins: the decoder is what the edge made it, one interval length further. -/
theorem feed_segment {x y : RxDecoder} {h : Segment} {o : Option Reception} (hh : Measurable h)
    (hedge : x.tick h.level = (y, o)) (hprimed : y.primed = true) (hlevel : y.level = h.level) (hdur : y.dur = 0) :
    feed (List.replicate h.ticks h.level) x = ({ y with dur := BitVec.ofNat 24 (h.ticks - 1) }, o.toList) := by
  obtain ⟨hpos, hmax⟩ := hh
  have hlength : satAdd y.dur (h.ticks - 1) = BitVec.ofNat 24 (h.ticks - 1) := by
    have hzero : (0 : Dur).toNat = 0 := rfl
    rw [satAdd, hdur, hzero, Nat.zero_add, Nat.min_eq_left (by omega)]
  have hsplit : List.replicate h.ticks h.level = h.level :: List.replicate (h.ticks - 1) h.level := by
    rw [← List.replicate_succ, Nat.sub_add_cancel hpos]
  rw [hsplit, feed_cons hedge (feed_replicate_level hprimed hlevel _), hlength, List.append_nil]

/-- The first edge: nothing is known of the interval before it (41_rx_decoder.md R142). -/
theorem feed_idling_segment {h : Segment} (hh : Measurable h) (hlevel : h.level = true) (d : Dur) :
    feed (List.replicate h.ticks h.level) (idling d) = (hearing h false 0 [], []) := by
  have hedge : (idling d).tick h.level = ({ idling d with level := h.level, dur := 0, seenEdge := true }, none) := by
    rw [hlevel]; rfl
  exact feed_segment hh hedge rfl rfl rfl

section AfterSegment

variable {g h : Segment} {ref : Bool} {gp : Dur} {buf : List Dur}

/-- The edge after a segment ends an interval of its length (41_rx_decoder.md R142). -/
theorem hearing_tick (hg : Measurable g) (hlevel : h.level = !g.level) :
    (hearing g ref gp buf).tick h.level =
      ({ hearing g ref gp buf with level := h.level, dur := 0 }.endInterval g.level g.interval,
        (hearing g ref gp buf).closedFrame g.level g.interval) := by
  obtain ⟨hpos, hmax⟩ := hg
  have hinterval : satInc (hearing g ref gp buf).dur = g.interval := by
    have hlt : g.ticks - 1 < 2 ^ 24 := by simp only [Config.durMax] at hmax; omega
    rw [satInc, hearing, BitVec.toNat_ofNat, Nat.mod_eq_of_lt hlt, Nat.sub_add_cancel hpos, Nat.min_eq_left hmax,
      Segment.interval]
  rw [← hinterval]
  rcases rxTick_cases (hearing g ref gp buf) h.level with ⟨hunprimed, _⟩ | ⟨_, hsame, _⟩ | ⟨_, _, hunseen, _⟩ | ⟨_, _, _, e⟩
  · cases hunprimed
  · exact absurd (hlevel.symm.trans hsame) (Bool.not_ne_self _)
  · cases hunseen
  · exact e

/-- After a segment that is no gap, its interval is kept if there was a gap before, and no frame is closed. -/
theorem feed_after_data (hg : Measurable g) (hdata : isGap g.level g.interval = false) (hh : Measurable h)
    (hlevel : h.level = !g.level) (hroom : ref = true → buf.length < Config.rxBufMax) :
    feed (List.replicate h.ticks h.level) (hearing g ref gp buf) =
      (hearing h ref gp (if ref then buf ++ [g.interval] else buf), []) := by
  have hkeep : { hearing g ref gp buf with level := h.level, dur := 0 }.endInterval g.level g.interval =
      { hearing h ref gp (if ref then buf ++ [g.interval] else buf) with dur := 0 } := by
    cases ref with
    | false => simp [RxDecoder.endInterval, hdata, hearing]
    | true => simp [RxDecoder.endInterval, hdata, hearing, hroom rfl]
  have hnone : (hearing g ref gp buf).closedFrame g.level g.interval = none := by
    simp [RxDecoder.closedFrame, hdata]
  have hedge := hearing_tick (ref := ref) (gp := gp) (buf := buf) hg hlevel
  rw [hkeep, hnone] at hedge
  exact feed_segment hh hedge rfl rfl rfl

/-- After a gap the intervals begin anew, and the frame between it and a gap before is decoded (41_rx_decoder.md R142). -/
theorem feed_after_gap (hg : Measurable g) (hgap : isGap g.level g.interval = true) (hh : Measurable h)
    (hlevel : h.level = !g.level) :
    feed (List.replicate h.ticks h.level) (hearing g ref gp buf) =
      (hearing h true g.interval [],
        if ref then (rxDecode (buf.map BitVec.toNat) gp.toNat g.interval.toNat).toList else []) := by
  have hanew : { hearing g ref gp buf with level := h.level, dur := 0 }.endInterval g.level g.interval =
      { hearing h true g.interval [] with dur := 0 } := by
    simp [RxDecoder.endInterval, hgap, hearing]
  have hclosed : (hearing g ref gp buf).closedFrame g.level g.interval =
      if ref then rxDecode (buf.map BitVec.toNat) gp.toNat g.interval.toNat else none := by
    simp [RxDecoder.closedFrame, hgap, hearing]
  have hedge := hearing_tick (ref := ref) (gp := gp) (buf := buf) hg hlevel
  rw [hanew, hclosed] at hedge
  rw [feed_segment hh hedge rfl rfl rfl]
  cases ref <;> rfl

end AfterSegment

/-- A segment inside a frame: measurable and no gap (41_rx_decoder.md R143). -/
def IsData (g : Segment) : Prop := Measurable g ∧ isGap g.level g.interval = false

/-- The low of a sync symbol: measurable and a gap (41_rx_decoder.md R143). -/
def IsGapLow (g : Segment) : Prop := Measurable g ∧ isGap g.level g.interval = true

/-- A gap is a low interval (41_rx_decoder.md R143). -/
theorem isGapLow_level {g : Segment} (hg : IsGapLow g) : g.level = false := by
  obtain ⟨-, hgap⟩ := hg
  simp only [isGap, Bool.and_eq_true, Bool.not_eq_true'] at hgap
  exact hgap.1

/-- Through segments that are no gaps the decoder keeps all their intervals, if there was a gap before them, and decodes nothing;
the last segment, whatever it is, has not ended yet. -/
theorem feed_data_run {g last : Segment} {l : List Segment} {ref : Bool} {gp : Dur} {buf : List Dur}
    (hdata : ∀ s ∈ g :: l, IsData s) (hlast : Measurable last) (halt : Alternating (!g.level) (l ++ [last]))
    (hroom : ref = true → buf.length + l.length < Config.rxBufMax) :
    feed (waveform (l ++ [last])) (hearing g ref gp buf) =
      (hearing last ref gp (if ref then buf ++ (g :: l).map Segment.interval else buf), []) := by
  induction l generalizing g buf with
  | nil =>
    obtain ⟨⟨hlevel, -⟩, -⟩ := halt
    obtain ⟨hg, hgdata⟩ := hdata g List.mem_cons_self
    rw [List.nil_append, waveform_cons]
    exact feed_append (feed_after_data hg hgdata hlast hlevel hroom) rfl
  | cons h rest ih =>
    obtain ⟨⟨hlevel, -⟩, hrest⟩ := halt
    obtain ⟨hg, hgdata⟩ := hdata g List.mem_cons_self
    have htail : ∀ s ∈ h :: rest, IsData s := fun s hs => hdata s (List.mem_cons_of_mem _ hs)
    obtain ⟨hh, -⟩ := htail h List.mem_cons_self
    simp only [List.length_cons] at hroom
    have hfirst : ref = true → buf.length < Config.rxBufMax := fun e => by have := hroom e; omega
    have hkept : (if ref then (if ref then buf ++ [g.interval] else buf) ++ (h :: rest).map Segment.interval
          else if ref then buf ++ [g.interval] else buf) =
        if ref then buf ++ (g :: h :: rest).map Segment.interval else buf := by
      cases ref <;> simp
    rw [← hkept, List.cons_append, waveform_cons]
    refine feed_append (feed_after_data hg hgdata hh hlevel hfirst) (ih htail (by rwa [hlevel]) fun e => ?_)
    have := hroom e
    simp only [e, if_true, List.length_append, List.length_singleton]
    omega

end Hearing

section BurstOfFrames

open Sys2Proof.Safety

/-- A frame that the decoder can take in: it alternates from high, ends in a gap, has no gap inside, and fits the buffer. -/
structure ReceivableFrame (first : Segment) (rest : List Segment) (gap : Segment) : Prop where
  alternates : Alternating true (first :: rest ++ [gap])
  data : ∀ s ∈ first :: rest, IsData s
  gap : IsGapLow gap
  fits : (first :: rest).length ≤ Config.rxBufMax

variable {first gap : Segment} {rest : List Segment} {r : Reception}

/-- The decoder after a frame that followed a gap: the gap at its end has not ended yet. -/
def afterFrame (first : Segment) (rest : List Segment) (gap : Segment) : RxDecoder :=
  hearing gap true gap.interval ((first :: rest).map Segment.interval)

/-- What comes after the first segment of a frame. -/
theorem ReceivableFrame.feed_rest (hf : ReceivableFrame first rest gap) {ref : Bool} {gp : Dur} :
    feed (waveform (rest ++ [gap])) (hearing first ref gp []) =
      (hearing gap ref gp (if ref then (first :: rest).map Segment.interval else []), []) := by
  obtain ⟨⟨⟨hlevel, -⟩, halt⟩, hdata, ⟨hgap, -⟩, hfits⟩ := hf
  exact feed_data_run hdata hgap (by rwa [hlevel]) fun _ => by
    rw [List.length_nil, Nat.zero_add]
    exact hfits

/-- No interval of the first frame of a burst is kept: there was no gap before it (41_rx_decoder.md R144). -/
theorem ReceivableFrame.feed_first (hf : ReceivableFrame first rest gap) (d : Dur) :
    feed (waveform (first :: rest ++ [gap])) (idling d) = (hearing gap false 0 [], []) := by
  obtain ⟨⟨hlevel, -⟩, -⟩ := hf.alternates
  obtain ⟨hfirst, -⟩ := hf.data first List.mem_cons_self
  rw [List.cons_append, waveform_cons]
  exact feed_append (feed_idling_segment hfirst hlevel d) hf.feed_rest

/-- A later frame closes the frame before it at its first edge, if that one followed a gap, and is then kept whole. -/
theorem ReceivableFrame.feed_next (hf : ReceivableFrame first rest gap) (ref : Bool) (gp : Dur) (buf : List Dur) :
    feed (waveform (first :: rest ++ [gap])) (hearing gap ref gp buf) =
      (afterFrame first rest gap,
        if ref then (rxDecode (buf.map BitVec.toNat) gp.toNat gap.interval.toNat).toList else []) := by
  obtain ⟨⟨hlevel, -⟩, -⟩ := hf.alternates
  obtain ⟨hfirst, -⟩ := hf.data first List.mem_cons_self
  obtain ⟨hgap, hisGap⟩ := hf.gap
  have hopposite : first.level = !gap.level := by rw [hlevel, isGapLow_level hf.gap]; rfl
  rw [List.cons_append, waveform_cons, ← List.append_nil (if ref then _ else _)]
  exact feed_append (feed_after_gap hgap hisGap hfirst hopposite) hf.feed_rest

/-- What the decoder kept of a frame is the lengths of its segments. -/
theorem ReceivableFrame.intervals_toNat (hf : ReceivableFrame first rest gap) :
    ((first :: rest).map Segment.interval).map BitVec.toNat = (first :: rest).map Segment.ticks := by
  rw [List.map_map]
  refine List.map_congr_left fun s hs => ?_
  obtain ⟨hs, -⟩ := hf.data s hs
  exact interval_toNat hs

/-- Each further frame gives the reception of the frame before it, which its first edge closes. -/
theorem ReceivableFrame.feed_frames (hf : ReceivableFrame first rest gap)
    (hr : rxDecode ((first :: rest).map Segment.ticks) gap.ticks gap.ticks = some r) (k : Nat) :
    feed (waveform (List.replicate k (first :: rest ++ [gap])).flatten) (afterFrame first rest gap) =
      (afterFrame first rest gap, List.replicate k r) := by
  induction k with
  | zero => rfl
  | succ k ih =>
    obtain ⟨hgap, -⟩ := hf.gap
    have hnext := hf.feed_next true gap.interval ((first :: rest).map Segment.interval)
    rw [if_pos rfl, hf.intervals_toNat, interval_toNat hgap, hr] at hnext
    rw [List.replicate_succ, List.flatten_cons, waveform_append]
    exact feed_append hnext ih

/-- The rising edge after a frame that followed a gap gives its reception. -/
theorem ReceivableFrame.feed_rise (hf : ReceivableFrame first rest gap)
    (hr : rxDecode ((first :: rest).map Segment.ticks) gap.ticks gap.ticks = some r) :
    ∃ y, feed [true] (afterFrame first rest gap) = (y, [r]) := by
  obtain ⟨hgap, hisGap⟩ := hf.gap
  have hopposite : (⟨true, 1⟩ : Segment).level = !gap.level := by rw [isGapLow_level hf.gap]; rfl
  have hstep := feed_after_gap (ref := true) (gp := gap.interval) (buf := (first :: rest).map Segment.interval)
    (h := ⟨true, 1⟩) hgap hisGap ⟨by decide, by decide⟩ hopposite
  rw [if_pos rfl, hf.intervals_toNat, interval_toNat hgap, hr] at hstep
  exact ⟨_, hstep⟩

/-- A burst of `k + 2` receivable frames on an idle line gives `k` receptions: the first frame follows no gap, and the last one is
not closed yet. -/
theorem ReceivableFrame.feed_burst (hf : ReceivableFrame first rest gap)
    (hr : rxDecode ((first :: rest).map Segment.ticks) gap.ticks gap.ticks = some r) {idle : Nat} (hidle : 1 ≤ idle) (k : Nat) :
    feed (List.replicate idle false ++ waveform (List.replicate (k + 2) (first :: rest ++ [gap])).flatten)
      RxDecoder.initial = (afterFrame first rest gap, List.replicate k r) := by
  obtain ⟨d, hstart⟩ := feed_idle hidle
  rw [List.replicate_succ, List.replicate_succ, List.flatten_cons, List.flatten_cons,
    waveform_append (first :: rest ++ [gap]), waveform_append (first :: rest ++ [gap])]
  exact feed_append hstart (feed_append (hf.feed_first d) (feed_append (hf.feed_next false 0 []) (hf.feed_frames hr k)))

/-- A segment of the data bits is a segment of one of the two symbols. -/
theorem mem_dataSegments {tm : Timing} {t n : Nat} {c : Word} {s : Segment} (h : s ∈ dataSegments tm t c n) :
    ∃ b, s ∈ bitSymbol tm t b := by
  induction n with
  | zero => cases h
  | succ k ih =>
    rcases List.mem_append.1 h with hbit | hrest
    · exact ⟨_, hbit⟩
    · exact ih hrest

/-- A high or low of up to 3 pulse units is no gap while the pulse length is at most 1666 ticks (41_rx_decoder.md R143). -/
theorem isData_of_units {t u : Nat} {b : Bool} (hu : 1 ≤ u ∧ u ≤ 3) (ht : 1 ≤ t) (ht' : t ≤ 1666) : IsData ⟨b, u * t⟩ := by
  obtain ⟨hu, hu'⟩ := hu
  have hpos : 1 ≤ u * t := Nat.mul_pos hu ht
  have hle : u * t ≤ 3 * 1666 := Nat.mul_le_mul hu' ht'
  have hmeas : Measurable ⟨b, u * t⟩ := ⟨hpos, hle.trans (by decide)⟩
  refine ⟨hmeas, ?_⟩
  have hshort : ¬ Config.rxGapMin ≤ u * t := by simp only [Config.rxGapMin]; omega
  rw [isGap, interval_toNat hmeas, decide_eq_false hshort, Bool.and_false]

/-- The sync low of protocol 1 is a gap from a pulse length of 162 ticks on (41_rx_decoder.md R143). -/
theorem isGapLow_sync {t : Nat} (ht : 162 ≤ t) (ht' : t ≤ 1666) : IsGapLow ⟨false, 31 * t⟩ := by
  have hmeas : Measurable ⟨false, 31 * t⟩ := by
    constructor <;> simp only [Config.durMax] <;> omega
  refine ⟨hmeas, ?_⟩
  have hlong : Config.rxGapMin ≤ 31 * t := by simp only [Config.rxGapMin]; omega
  rw [isGap, interval_toNat hmeas, decide_eq_true hlong]
  rfl

/-- A protocol-1 frame without its sync low: the data bits and the sync high. -/
def frameBody (t : Nat) (c : Word) (n : Nat) : List Segment := dataSegments (timing 1) t c n ++ [⟨true, 1 * t⟩]

/-- A protocol-1 frame is its body and the sync low (40_pulse_codec.md R119). -/
theorem frameSegments_eq_body (t : Nat) (c : Word) (n : Nat) :
    frameSegments (timing 1) t c n = frameBody t c n ++ [⟨false, 31 * t⟩] :=
  (List.append_assoc (dataSegments (timing 1) t c n) [⟨true, 1 * t⟩] [⟨false, 31 * t⟩]).symm

/-- Nothing in the body of a protocol-1 frame is a gap while the pulse length is at most 1666 ticks (log 16). -/
theorem frameBody_isData {t n : Nat} {c : Word} (ht : 1 ≤ t) (ht' : t ≤ 1666) : ∀ s ∈ frameBody t c n, IsData s := by
  intro s hs
  rcases List.mem_append.1 hs with hdata | hsync
  · obtain ⟨b, hb⟩ := mem_dataSegments hdata
    cases b <;> rcases List.mem_pair.1 hb with rfl | rfl <;> exact isData_of_units (by decide) ht ht'
  · rw [List.mem_singleton.1 hsync]
    exact isData_of_units (by decide) ht ht'

/-- A protocol-1 frame with a pulse length of 162 to 1666 ticks and at most 32 bits is receivable. -/
theorem frameBody_receivable {t n : Nat} {c : Word} {first : Segment} {rest : List Segment} (ht : 162 ≤ t) (ht' : t ≤ 1666)
    (hn : n ≤ 32) (hbody : frameBody t c n = first :: rest) : ReceivableFrame first rest ⟨false, 31 * t⟩ where
  alternates := by
    rw [← hbody, ← frameSegments_eq_body]
    exact frameSegments_alternating (timing_positive (by decide)) (by omega) c n
  data := hbody ▸ frameBody_isData (by omega) ht'
  gap := isGapLow_sync ht ht'
  fits := by
    rw [← hbody, frameBody, List.length_append, dataSegments_length, List.length_singleton]
    simp only [Config.rxBufMax, Config.rxMaxBits]
    omega

end BurstOfFrames

/-- Settles O51, by induction over the frames: once a gap has been heard, each frame's first edge closes the frame before it, which
decodes as O50 says. -/
theorem burstDecodes : Obligations.BurstDecodes := by
  unfold Obligations.BurstDecodes
  intro p idle hproto ht ht' hc hcn hn hn' hreps hidle
  obtain ⟨first, rest, hbody⟩ := List.exists_cons_of_ne_nil
    (List.append_ne_nil_of_right_ne_nil (dataSegments (timing 1) p.pulse.toNat p.code p.bits.toNat)
      (List.cons_ne_nil (⟨true, 1 * p.pulse.toNat⟩ : Segment) []))
  rw [← frameBody] at hbody
  have hf := frameBody_receivable ht ht' hn' hbody
  have hr : rxDecode ((first :: rest).map Segment.ticks) (31 * p.pulse.toNat) (31 * p.pulse.toNat) =
      some { code := p.code.toNat, proto := 1, pulse := p.pulse.toNat, bits := p.bits.toNat } := by
    rw [← hbody, frameBody, List.map_append]
    exact frameDecodes p.code _ _ _ _ ht (by omega) hn hn' hc hcn (by simp)
  have hsegments : p.segments =
      (List.replicate (p.reps.toNat - 2 + 2) (first :: rest ++ [⟨false, 31 * p.pulse.toNat⟩])).flatten := by
    rw [Nat.sub_add_cancel hreps, ← hbody, ← frameSegments_eq_body, Profile.segments, hproto]
    rfl
  have hburst := hf.feed_burst hr hidle (p.reps.toNat - 2)
  obtain ⟨y, hrise⟩ := hf.feed_rise hr
  have hcount : p.reps.toNat - 2 + 1 = p.reps.toNat - 1 := by omega
  rw [hsegments, hburst, feed_append hburst hrise, ← List.replicate_succ', hcount]
  exact ⟨rfl, rfl⟩

end Sys2Proof.Machine

/-! ### What a clock does to the receive decoder, and what an RX_ACK does to the latch -/

namespace Sys2Proof.Machine

section ReceiveRules

variable (s : State)

/-- The end of a clock leaves CTRL.RX_EN. -/
theorem endClock_rxEn (div : Nat) (rxIn : Bool) : (s.endClock div rxIn).rxEn = s.rxEn := by
  obtain ⟨hctrl, -⟩ := endClock_kept s div rxIn
  rw [State.rxEn, hctrl, State.rxEn]

/-- While RX_EN = 0 every clock ends with the decoder in its initial state (41_rx_decoder.md R140; log 4). -/
theorem endClock_dec_of_disabled (div : Nat) (rxIn : Bool) (h : s.rxEn = false) :
    (s.endClock div rxIn).dec = RxDecoder.initial := by
  by_cases htick : s.tickCnt = div - 1
  · exact (endClock_tick_dec s rxIn htick).trans (if_neg (Bool.eq_false_iff.1 h))
  · exact (endClock_noTick_dec s rxIn htick).trans (if_neg (Bool.eq_false_iff.1 h))

/-- While RX_EN = 0 the end of a clock leaves the latch: no sample is taken. -/
theorem endClock_rx_of_disabled (div : Nat) (rxIn : Bool) (h : s.rxEn = false) : (s.endClock div rxIn).rx = s.rx := by
  by_cases htick : s.tickCnt = div - 1
  · exact (endClock_tick_rx s rxIn htick).trans (if_neg (Bool.eq_false_iff.1 h))
  · obtain ⟨_, _, _, _, _, hrx⟩ := endClock_noTick s rxIn htick
    exact hrx

/-- The decoder at the end of a clock is held in its initial state, as it was, or one sample further. -/
theorem endClock_dec_cases (div : Nat) (rxIn : Bool) :
    (s.endClock div rxIn).dec = RxDecoder.initial ∨ (s.endClock div rxIn).dec = s.dec ∨
    (s.endClock div rxIn).dec = (s.dec.tick s.sync.stage2).1 := by
  cases hen : s.rxEn with
  | false => exact .inl (endClock_dec_of_disabled s div rxIn hen)
  | true =>
    by_cases htick : s.tickCnt = div - 1
    · exact .inr (.inr ((endClock_tick_dec s rxIn htick).trans (if_pos hen)))
    · exact .inr (.inl ((endClock_noTick_dec s rxIn htick).trans (if_pos hen)))

/-- The latch after an RX_ACK: RX_VALID and RX_OVERRUN are 0, the RX_* registers as before (41_rx_decoder.md R160). -/
def RxLatch.acknowledged (x : RxLatch) : RxLatch := { x with valid := false, overrun := false }

/-- RX_ACK with no fault recorded. -/
theorem exec_rxAck (h : s.fault.code = .none) : exec .rxAck s = .next (s.setRx s.rx.acknowledged) :=
  congrArg Host.Outcome.next (unlessBlocked_run s _ h)

/-- Only an RX_ACK that is not blocked reaches the latch. -/
theorem exec_rx_kept {i : Instr} {t : State} (hnot : ¬ (i = .rxAck ∧ s.fault.code = .none)) (h : exec i s = .next t) :
    t.rx = s.rx := by
  rcases exec_cases s h with rfl | ⟨-, rfl⟩ | ⟨e, -⟩ | ⟨hclear, hcmd⟩
  · rfl
  · rfl
  · rw [e]; rfl
  · rcases hcmd with ⟨-, -, rfl⟩ | ⟨-, rfl⟩ | ⟨-, rfl⟩ | ⟨hack, -⟩ | ⟨-, -, rfl⟩ | ⟨m, -, -, rfl⟩ | ⟨m, -, -, rfl⟩
    · rfl
    · rfl
    · rfl
    · exact absurd ⟨hack, hclear⟩ hnot
    · rfl
    · obtain ⟨_, _, _, _, hrx, _⟩ := modePoll_kept s m
      exact hrx
    · obtain ⟨_, _, _, _, hrx, _⟩ := cycle_kept s m
      exact hrx

/-- The latch after an access: acknowledged by a write of RX_ACK's word to CMD that is not blocked, else as before. -/
theorem accessStage_rx {a : Access} {u : State} (h : accessStage a s = .next u) :
    u.rx = if a = .write 0x0C 0x00000008 ∧ s.fault.code = .none then s.rx.acknowledged else s.rx := by
  split
  next hack =>
    obtain ⟨rfl, hclear⟩ := hack
    have hdecode : decode 0x00000008 = some .rxAck := decode_encode .rxAck
    rw [accessStage, busWrite_cmd, issue_of_decode_some s hdecode, exec_rxAck s hclear] at h
    cases h
    rfl
  next hnot =>
    rcases accessStage_cases s h with rfl | ⟨e, _⟩ | ⟨_, _, _, _, rfl⟩ | ⟨w, i, ha, hdecode, hexec⟩ | ⟨_, _, rfl⟩ |
      ⟨_, _, _, rfl⟩ | ⟨_, _, _, rfl⟩ | ⟨_, _, _, rfl⟩ | ⟨_, _, _, rfl⟩ | ⟨_, _, rfl⟩ | ⟨_, _, rfl⟩
    case inr.inl => rw [e]; rfl
    case inr.inr.inr.inl =>
      refine exec_rx_kept s (fun ⟨hi, hclear⟩ => hnot ⟨?_, hclear⟩) hexec
      rw [ha, eq_encode_of_decode hdecode, hi]
      rfl
    all_goals rfl

/-- A fault with none recorded before is recorded whole, an earlier OVERFLOW kept (60_exceptions.md R262). -/
theorem raise_eq_faulted {code : FaultCode} {info addr : Word} (h : s.fault.code = .none) :
    s.raise code info addr = Safety.faulted s code info addr := by
  rcases raise_cases s code info addr with ⟨_, e⟩ | ⟨hne, _⟩
  · exact e
  · exact absurd h hne

end ReceiveRules

end Sys2Proof.Machine

/-! ### The receive decoder's invariant -/

namespace Sys2Proof.Machine

section DecoderInvariant

open Sys2Proof.Safety

/-- What DecoderLegal says of the decoder by itself, whatever RX_EN is (41_rx_decoder.md R142, R144). -/
structure RxDecoder.Legal (x : RxDecoder) : Prop where
  bounded : x.buf.length ≤ Config.rxBufMax
  no_ref : x.haveRef = false → x.buf = [] ∧ x.ovf = false ∧ x.gprev = 0
  ref_gap : x.haveRef = true → x.primed = true ∧ x.seenEdge = true ∧ Config.rxGapMin ≤ x.gprev.toNat
  parity : x.haveRef = true → x.ovf = false → (x.buf.length % 2 = 0 ↔ x.level = true)
  overflow : x.ovf = true → x.buf.length = Config.rxBufMax

/-- The decoder of a legal state is legal. -/
theorem legal_of_decoderLegal {s : State} (h : DecoderLegal s) : s.dec.Legal :=
  ⟨h.bounded, h.no_ref, h.ref_gap, h.parity, h.overflow⟩

/-- A legal decoder that is held while RX_EN = 0 makes the state legal. -/
theorem decoderLegal_of_legal {s : State} (hheld : s.rxEn = false → s.dec = RxDecoder.initial) (h : s.dec.Legal) :
    DecoderLegal s :=
  ⟨hheld, h.bounded, h.no_ref, h.ref_gap, h.parity, h.overflow⟩

/-- Before the first gap the level, the edge seen and the interval so far are free: nothing has been kept yet. -/
theorem RxDecoder.Legal.of_no_ref {x y : RxDecoder} (h : x.Legal) (hx : x.haveRef = false) (href : y.haveRef = x.haveRef)
    (hbuf : y.buf = x.buf) (hovf : y.ovf = x.ovf) (hgprev : y.gprev = x.gprev) : y.Legal := by
  obtain ⟨hempty, hfits, hzero⟩ := h.no_ref hx
  rw [hx] at href
  rw [hempty] at hbuf
  rw [hfits] at hovf
  rw [hzero] at hgprev
  constructor <;> simp [href, hbuf, hovf, hgprev]

/-- The initial state is legal: no gap yet, nothing kept (41_rx_decoder.md R140). -/
theorem initial_legal : RxDecoder.initial.Legal := by
  constructor <;> simp [RxDecoder.initial]

/-- The end of an interval keeps the decoder legal: a gap is low, so the level after it is high and the buffer empty; any other
interval that is kept changes the level and the parity of the buffer together (41_rx_decoder.md R142, R144). -/
theorem endInterval_legal {x : RxDecoder} {b : Bool} {d : Dur} (h : x.Legal) (hprimed : x.primed = true)
    (hedge : b ≠ x.level) (hseen : x.seenEdge = true) :
    ({ x with level := b, dur := 0 }.endInterval x.level d).Legal := by
  rcases endInterval_cases { x with level := b, dur := 0 } x.level d with
    ⟨hgap, e⟩ | ⟨_, href, hroom, e⟩ | ⟨_, href, hfull, e⟩ | ⟨_, href, e⟩ <;> rw [e]
  · obtain ⟨hlow, hlong⟩ : x.level = false ∧ Config.rxGapMin ≤ d.toNat := by simpa [isGap] using hgap
    have hhigh : b = true := by rw [hlow] at hedge; exact eq_true_of_ne_false hedge
    exact ⟨Nat.zero_le _, nofun, fun _ => ⟨hprimed, hseen, hlong⟩, fun _ _ => by simp [hhigh], nofun⟩
  · have hfits : ¬ x.ovf = true := fun hovf => hroom.ne (h.overflow hovf)
    have hparity := h.parity href (eq_false_of_ne_true hfits)
    refine ⟨?_, fun hno => ?_, fun _ => h.ref_gap href, fun _ _ => ?_, fun hovf => absurd hovf hfits⟩
    · rw [List.length_append]; exact hroom
    · exact absurd (href.symm.trans hno) nofun
    · have hflip : (x.buf ++ [d]).length % 2 = 0 ↔ ¬ x.buf.length % 2 = 0 := by
        rw [List.length_append, List.length_singleton]; omega
      change (x.buf ++ [d]).length % 2 = 0 ↔ b = true
      rw [hflip, hparity, Bool.eq_not_of_ne hedge]
      simp
  · refine ⟨h.bounded, fun hno => absurd (href.symm.trans hno) nofun, fun _ => h.ref_gap href, nofun, fun _ => ?_⟩
    exact Nat.le_antisymm h.bounded (Nat.not_lt.1 hfull)
  · exact h.of_no_ref href rfl rfl rfl rfl

/-- Every sample keeps the decoder legal. -/
theorem tick_legal {x : RxDecoder} (h : x.Legal) (b : Bool) : (x.tick b).1.Legal := by
  have hnoRef (hearly : x.primed = false ∨ x.seenEdge = false) : x.haveRef = false := by
    by_contra href
    obtain ⟨hprimed, hseen, -⟩ := h.ref_gap (eq_true_of_ne_false href)
    simp [hprimed, hseen] at hearly
  rcases rxTick_cases x b with ⟨hunprimed, e⟩ | ⟨_, _, e⟩ | ⟨_, _, hunseen, e⟩ | ⟨hprimed, hedge, hseen, e⟩ <;> rw [e]
  · exact h.of_no_ref (hnoRef (.inl hunprimed)) rfl rfl rfl rfl
  · exact ⟨h.bounded, h.no_ref, h.ref_gap, h.parity, h.overflow⟩
  · exact h.of_no_ref (hnoRef (.inr hunseen)) rfl rfl rfl rfl
  · exact endInterval_legal h hprimed hedge hseen

end DecoderInvariant

/-- Settles O43: no access writes the decoder, and the end of a clock holds it, leaves it, or gives it one sample. -/
theorem stepKeepsDecoderLegal : Obligations.StepKeepsDecoderLegal := by
  unfold Obligations.StepKeepsDecoderLegal
  intro s t hs hstep
  rcases step_cases s hstep with ⟨_, rfl⟩ | ⟨_, u, hu, rfl⟩
  · exact decoderLegal_of_legal (fun _ => rfl) initial_legal
  · obtain ⟨_, _, _, hdec, _⟩ := accessStage_kept s hu
    have hlegal : (u.setReadData (readDatum s.nextInput.access s)).dec.Legal := by
      rw [State.setReadData_dec, hdec]; exact legal_of_decoderLegal hs
    generalize u.setReadData (readDatum s.nextInput.access s) = v at hlegal ⊢
    refine decoderLegal_of_legal (fun hoff => endClock_dec_of_disabled v _ _ ((endClock_rxEn v _ _).symm.trans hoff)) ?_
    rcases endClock_dec_cases v Config.tickDiv s.nextInput.rxIn with e | e | e <;> rw [e]
    · exact initial_legal
    · exact hlegal
    · exact tick_legal hlegal v.sync.stage2

end Sys2Proof.Machine

/-! ### The reception latch: RX_ACK, RX_CAPTURE, and the frames that the decoder puts into it -/

namespace Sys2Proof.Machine

/-- A frame replaces the RX_* registers and sets RX_VALID; over an unacknowledged one it sets RX_OVERRUN, which else stays
(41_rx_decoder.md R152). -/
theorem latch_eq (x : RxLatch) (r : Reception) (now : Word) :
    x.latch r now =
      { valid := true
        overrun := if x.valid then true else x.overrun
        code := BitVec.ofNat 32 r.code
        proto := BitVec.ofNat 8 r.proto
        pulse := BitVec.ofNat 16 r.pulse
        bits := BitVec.ofNat 6 r.bits
        ts := now } := by
  rw [RxLatch.latch]
  cases x.valid <;> rfl

/-- A frame over an unacknowledged one leaves RX_VALID and RX_OVERRUN set (41_rx_decoder.md R152). -/
theorem latch_of_valid {x : RxLatch} (h : x.valid = true) (r : Reception) (now : Word) :
    (x.latch r now).valid = true ∧ (x.latch r now).overrun = true := by
  rw [latch_eq, h]
  exact ⟨rfl, rfl⟩

/-- The receive stage of a tick that completes a frame writes the decoder and the latch (41_rx_decoder.md R142, R152). -/
theorem rxStage_of_frame {s : State} {r : Reception} (hen : s.rxEn = true) (hr : (s.dec.tick s.sync.stage2).2 = some r) :
    s.rxStage true = (s.setDec (s.dec.tick s.sync.stage2).1).setRx (s.rx.latch r s.timer) := by
  rcases rxStage_cases s true with ⟨hoff, _⟩ | ⟨_, _, hnone, _⟩ | ⟨r', _, _, hr', e⟩
  · exact absurd ⟨rfl, hen⟩ hoff
  · rw [hr] at hnone
    cases hnone
  · rw [hr] at hr'
    cases hr'
    exact e

/-- Settles O11: RX_ACK is not blocked, and writes the two flags of the latch. -/
theorem rxAckResult : Obligations.RxAckResult := by
  unfold Obligations.RxAckResult
  exact fun s hclear => exec_rxAck s hclear

/-- Settles O12: RX_CAPTURE is not blocked, and RX_VALID decides between the candidate and the fault NO_RX. -/
theorem rxCaptureResult : Obligations.RxCaptureResult := by
  unfold Obligations.RxCaptureResult
  intro s hclear
  rw [exec_rxCapture s hclear]
  refine ⟨fun hvalid => ?_, fun hempty => ?_⟩
  · rw [hvalid]
    rfl
  · rw [hempty]
    exact congrArg Host.Outcome.next (raise_eq_faulted s hclear)

/-- Settles O54: a tick with receive enabled samples the decoder that the access left as it was, and latches the frame over the
latch that the access left. -/
theorem decodedFrameIsLatched : Obligations.DecodedFrameIsLatched := by
  unfold Obligations.DecodedFrameIsLatched
  intro s r hr
  refine ⟨fun hen => ?_, fun t hrst htick hstep hen => ?_⟩
  · rw [rxStage_of_frame hen hr, latch_eq]
    rfl
  · obtain ⟨u, hu, rfl⟩ := step_out_of_reset s hrst hstep
    obtain ⟨htimer, hcnt, -, hdec, hsync, -⟩ := accessStage_kept s hu
    have hen' : u.rxEn = true := (endClock_rxEn u Config.tickDiv s.nextInput.rxIn).symm.trans hen
    have hframe : (u.dec.tick u.sync.stage2).2 = some r := by rw [hdec, hsync, hr]
    have hdecEnd := endClock_tick_dec u s.nextInput.rxIn (hcnt.trans htick)
    have hrxEnd := endClock_tick_rx u s.nextInput.rxIn (hcnt.trans htick)
    rw [if_pos hen', hdec, hsync] at hdecEnd
    simp only [if_pos hen', hframe] at hrxEnd
    refine ⟨hdecEnd, hrxEnd.trans ?_⟩
    rw [latch_eq, accessStage_rx s hu, htimer]
    split <;> rfl

/-- Settles O55: an access that is no RX_ACK leaves the latch, and the end of the clock leaves it or latches over it. -/
theorem overrunShowsOverwrite : Obligations.OverrunShowsOverwrite := by
  unfold Obligations.OverrunShowsOverwrite
  intro s t hrst hvalid hnot hstep
  obtain ⟨u, hu, rfl⟩ := step_out_of_reset s hrst hstep
  have hrx : u.rx = s.rx :=
    (accessStage_rx s hu).trans (if_neg fun ⟨hack, _⟩ => hnot _ hack (decode_encode .rxAck))
  rw [State.setReadData_rx]
  rcases endClock_rx_cases u Config.tickDiv s.nextInput.rxIn with e | ⟨r, _, e⟩ <;> rw [e, hrx]
  · exact .inl rfl
  · exact .inr (latch_of_valid hvalid r _)

/-- Settles O56: a reset clock puts the decoder into its initial state, and so does the end of any other clock with RX_EN = 0, which
takes no sample. -/
theorem disabledDecoderIsHeld : Obligations.DisabledDecoderIsHeld := by
  unfold Obligations.DisabledDecoderIsHeld
  intro s t hstep hoff
  rcases step_cases s hstep with ⟨hreset, rfl⟩ | ⟨_, u, hu, rfl⟩
  · exact ⟨rfl, fun hrst => absurd (hrst.symm.trans hreset) nofun⟩
  · have hoff' := (endClock_rxEn _ _ _).symm.trans hoff
    refine ⟨endClock_dec_of_disabled _ _ _ hoff', fun _ _ hidle => ?_⟩
    obtain rfl := accessStage_idle s hu hidle
    exact endClock_rx_of_disabled _ _ _ hoff'

end Sys2Proof.Machine

/-! ### The frames that the decoder accepts -/

namespace Sys2Proof.Machine

section AcceptedFrames

open Sys2Proof.Safety

/-- A pair of intervals matches a symbol when it lies strictly within the tolerance of it (41_rx_decoder.md R148, R149). -/
theorem matchesSymbol_iff (t high low h l : Nat) :
    matchesSymbol t (tolerance t) high low h l = true ↔ PairWithin t high low h l := by
  rw [matchesSymbol, Bool.and_eq_true, decide_eq_true_iff, decide_eq_true_iff]
  rfl

/-- The pair of intervals `h`, `l` reads as the bit `b` under a timing: the zero test comes first (41_rx_decoder.md R149). -/
def BitReads (tm : Timing) (t : Nat) (b : Bool) (h l : Nat) : Prop :=
  if b then ¬ PairWithin t tm.zeroHigh tm.zeroLow h l ∧ PairWithin t tm.oneHigh tm.oneLow h l
  else PairWithin t tm.zeroHigh tm.zeroLow h l

/-- What the decoder reads from a pair of intervals. -/
theorem decodeBit_eq_some_iff {tm : Timing} {t h l : Nat} {b : Bool} :
    decodeBit tm t (tolerance t) h l = some b ↔ BitReads tm t b h l := by
  unfold decodeBit
  split
  next hzero =>
    rw [matchesSymbol_iff] at hzero
    cases b <;> simp [BitReads, hzero]
  next hzero =>
    rw [matchesSymbol_iff] at hzero
    split
    next hone =>
      rw [matchesSymbol_iff] at hone
      cases b <;> simp [BitReads, hzero, hone]
    next hone =>
      rw [matchesSymbol_iff] at hone
      cases b <;> simp [BitReads, hzero, hone]

/-- The first `n` pairs of a buffer read as the low `n` bits of a number, the most significant bit first
(41_rx_decoder.md R145). -/
def PairsRead (tm : Timing) (t : Nat) (buf : List Nat) (n code : Nat) : Prop :=
  ∀ i, i < n → ∃ h l, buf[2 * i]? = some h ∧ buf[2 * i + 1]? = some l ∧ BitReads tm t (code.testBit (n - 1 - i)) h l

/-- The first pair reads as bit `n`, the others as the bits below it. -/
theorem pairsRead_cons_cons {tm : Timing} {t h l n code : Nat} {rest : List Nat} :
    PairsRead tm t (h :: l :: rest) (n + 1) code ↔ BitReads tm t (code.testBit n) h l ∧ PairsRead tm t rest n code := by
  have hbit (i : Nat) : n + 1 - 1 - (i + 1) = n - 1 - i := by omega
  unfold PairsRead
  constructor
  · intro hpairs
    refine ⟨?_, fun i hi => ?_⟩
    · obtain ⟨h', l', hh, hl, hread⟩ := hpairs 0 n.succ_pos
      cases hh
      cases hl
      exact hread
    · obtain ⟨h', l', hh, hl, hread⟩ := hpairs (i + 1) (Nat.succ_lt_succ hi)
      exact ⟨h', l', hh, hl, hbit i ▸ hread⟩
  · rintro ⟨hfirst, hrest⟩ i hi
    cases i with
    | zero => exact ⟨h, l, rfl, rfl, hfirst⟩
    | succ j =>
      obtain ⟨h', l', hh, hl, hread⟩ := hrest j (Nat.lt_of_succ_lt_succ hi)
      exact ⟨h', l', hh, hl, (hbit j).symm ▸ hread⟩

/-- A number starts with the bits `acc * 2 + b` above its low `n` ones exactly when it starts with `acc` above bit `n`, which is
`b`. -/
theorem div_two_pow_eq_iff {c acc n : Nat} {b : Bool} :
    c / 2 ^ n = acc * 2 + b.toNat ↔ c / 2 ^ (n + 1) = acc ∧ c.testBit n = b := by
  rw [Nat.pow_succ, ← Nat.div_div_eq_div_mul, Nat.testBit_eq_decide_div_mod_eq]
  generalize c / 2 ^ n = q
  cases b <;> simp <;> omega

/-- The decoder reads a buffer of `n` pairs and one interval more exactly when the result is the code so far, followed by `n` bits
as which the pairs read (41_rx_decoder.md R145, R149, R153). -/
theorem decodeBits_eq_some_iff {tm : Timing} {t n acc c : Nat} {buf : List Nat} (hlen : buf.length = 2 * n + 1) :
    decodeBits tm t (tolerance t) buf acc = some c ↔ c / 2 ^ n = acc ∧ PairsRead tm t buf n c := by
  induction n generalizing buf acc with
  | zero =>
    obtain ⟨x, rfl⟩ := List.length_eq_one_iff.1 hlen
    simp [decodeBits, PairsRead, eq_comm]
  | succ n ih =>
    match buf, hlen with
    | h :: l :: rest, hlen =>
      have hrest : rest.length = 2 * n + 1 := by simp only [List.length_cons] at hlen; omega
      rw [decodeBits, pairsRead_cons_cons, ← decodeBit_eq_some_iff]
      cases hb : decodeBit tm t (tolerance t) h l with
      | none => simp
      | some b => simp only [ih hrest, div_two_pow_eq_iff, Option.some.injEq, and_assoc, eq_comm (a := b)]

/-- What FrameReads says, in terms of the model's estimate of the pulse length. -/
theorem frameReads_iff {buf : List Nat} {gp n p code : Nat} :
    FrameReads buf gp n p code ↔ ¬ (estPulse (timing p) gp < 1 ∨ 65535 < estPulse (timing p) gp) ∧ code ≠ 0 ∧ code < 2 ^ n ∧
      PairsRead (timing p) (estPulse (timing p) gp) buf n code := by
  rw [not_or, Nat.not_lt, Nat.not_lt]
  exact ⟨fun ⟨hpulse, hcode, hwidth, hpairs⟩ => ⟨hpulse, hcode, hwidth, hpairs⟩,
    fun ⟨hpulse, hcode, hwidth, hpairs⟩ => ⟨hpulse, hcode, hwidth, hpairs⟩⟩

/-- One protocol's try gives a frame exactly when the pulse length is in range and the bits read as a code that is not 0
(41_rx_decoder.md R148, R151). -/
theorem tryProtocol_eq_some_iff_decodeBits {buf : List Nat} {gp n p : Nat} {r : Reception} :
    tryProtocol buf gp n p = some r ↔
      ¬ (estPulse (timing p) gp < 1 ∨ 65535 < estPulse (timing p) gp) ∧ r.code ≠ 0 ∧
      decodeBits (timing p) (estPulse (timing p) gp) (tolerance (estPulse (timing p) gp)) buf 0 = some r.code ∧
      r = { code := r.code, proto := p, pulse := estPulse (timing p) gp, bits := n } := by
  simp only [tryProtocol]
  split
  next hpulse => exact ⟨nofun, fun ⟨hin, _⟩ => absurd hpulse hin⟩
  next hpulse =>
    cases hd : decodeBits (timing p) (estPulse (timing p) gp) (tolerance (estPulse (timing p) gp)) buf 0 with
    | none => exact ⟨nofun, fun ⟨_, _, hsome, _⟩ => nomatch hsome⟩
    | some c =>
      by_cases hc : c = 0
      · exact ⟨by simp [hc], fun ⟨_, hne, hsome, _⟩ => absurd ((Option.some.inj hsome).symm.trans hc) hne⟩
      · simp only [ne_eq, if_pos hc, Option.some.injEq]
        constructor
        · rintro rfl
          exact ⟨hpulse, hc, rfl, rfl⟩
        · rintro ⟨_, _, hsome, hr⟩
          rw [hr, ← hsome]

/-- One protocol's try gives exactly the codes as which the frame reads under it (41_rx_decoder.md R149). -/
theorem tryProtocol_eq_some_iff {buf : List Nat} {gp n p : Nat} {r : Reception} (hlen : buf.length = 2 * n + 1) :
    tryProtocol buf gp n p = some r ↔
      FrameReads buf gp n p r.code ∧ r = { code := r.code, proto := p, pulse := gp / (timing p).syncLow, bits := n } := by
  rw [tryProtocol_eq_some_iff_decodeBits, frameReads_iff, decodeBits_eq_some_iff hlen,
    Nat.div_eq_zero_iff_lt (Nat.two_pow_pos n)]
  simp only [and_assoc, estPulse]

/-- One protocol's try gives nothing exactly when the frame reads as no code under it. -/
theorem tryProtocol_eq_none_iff {buf : List Nat} {gp n p : Nat} (hlen : buf.length = 2 * n + 1) :
    tryProtocol buf gp n p = none ↔ ∀ c, ¬ FrameReads buf gp n p c := by
  rw [Option.eq_none_iff_forall_ne_some]
  refine ⟨fun hnone c hc => ?_, fun hnone r hr => ?_⟩
  · exact hnone ⟨c, p, gp / (timing p).syncLow, n⟩ ((tryProtocol_eq_some_iff hlen).2 ⟨hc, rfl⟩)
  · obtain ⟨hread, _⟩ := (tryProtocol_eq_some_iff hlen).1 hr
    exact hnone r.code hread

/-- Over consecutive numbers the search stops at the first one that gives something. -/
theorem findSome?_range'_eq_some_iff {α : Type} {f : Nat → Option α} {a k : Nat} {r : α} :
    (List.range' a k).findSome? f = some r ↔
      ∃ p, (a ≤ p ∧ p < a + k) ∧ f p = some r ∧ ∀ q, a ≤ q → q < p → f q = none := by
  rw [List.findSome?_eq_some_iff]
  constructor
  · rintro ⟨before, p, after, hsplit, hp, hnone⟩
    obtain ⟨m, hm, rfl, htail⟩ := List.range'_eq_append_iff.1 hsplit
    obtain ⟨rfl, hpos, -⟩ := List.range'_eq_cons_iff.1 htail.symm
    refine ⟨_, ⟨?_, ?_⟩, hp, fun q hq hqp => hnone q (List.mem_range'_1.2 ⟨hq, ?_⟩)⟩ <;> omega
  · rintro ⟨p, ⟨hap, hpk⟩, hp, hnone⟩
    refine ⟨List.range' a (p - a), p, List.range' (p + 1) (k - (p - a) - 1), ?_, hp, fun q hq => ?_⟩
    · have htail : List.range' (a + (p - a) * 1) (k - (p - a)) = p :: List.range' (p + 1) (k - (p - a) - 1) :=
        List.range'_eq_cons_iff.2 ⟨by omega, by omega, rfl⟩
      exact List.range'_eq_append_iff.2 ⟨p - a, by omega, rfl, htail.symm⟩
    · obtain ⟨hq, hqp⟩ := List.mem_range'_1.1 hq
      exact hnone q hq (by omega)

/-- The protocols are tried in ascending number, and the first that reads the frame gives the reception (41_rx_decoder.md R150). -/
theorem findSome?_protocols_iff {f : Nat → Option Reception} {r : Reception} :
    protocols.findSome? f = some r ↔
      ∃ p, (1 ≤ p ∧ p ≤ 6) ∧ f p = some r ∧ ∀ q, 1 ≤ q → q < p → f q = none := by
  rw [protocols, findSome?_range'_eq_some_iff]
  simp only [Config.nProto, Nat.lt_succ_iff]

/-- The search over the protocols runs exactly for a buffer of 3 to 32 pairs and one interval more, between gaps that match
(41_rx_decoder.md R145, R146, R147). -/
theorem rxDecode_eq_some_iff {buf : List Nat} {gp gn : Nat} {r : Reception} :
    rxDecode buf gp gn = some r ↔
      absDiff gn gp < 200 ∧ ∃ n, buf.length = 2 * n + 1 ∧ 3 ≤ n ∧ n ≤ 32 ∧
        protocols.findSome? (tryProtocol buf gp n) = some r := by
  simp only [rxDecode]
  split
  next hgap => exact ⟨nofun, fun ⟨hmatch, _⟩ => absurd hgap (Nat.not_le.2 hmatch)⟩
  next hgap =>
    split
    next heven => exact ⟨nofun, fun ⟨_, n, hlen, _⟩ => by omega⟩
    next hodd =>
      split
      next hbits =>
        simp only [Config.rxMinBits, Config.rxMaxBits] at hbits
        exact ⟨nofun, fun ⟨_, n, hlen, hmin, hmax, _⟩ => by omega⟩
      next hbits =>
        simp only [Config.rxMinBits, Config.rxMaxBits] at hbits
        refine ⟨fun h => ⟨Nat.not_le.1 hgap, _, ?_, ?_, ?_, h⟩, fun ⟨_, n, hlen, _, _, h⟩ => ?_⟩
        · omega
        · omega
        · omega
        · rwa [show (buf.length - 1) / 2 = n by omega]

end AcceptedFrames

/-- Settles O53: the checks of the frame's form, then the first protocol under which it reads as a code. -/
theorem decodedFramesAreSound : Obligations.DecodedFramesAreSound := by
  unfold Obligations.DecodedFramesAreSound
  intro buf gp gn r
  rw [rxDecode_eq_some_iff]
  constructor
  · rintro ⟨hgap, n, hlen, hmin, hmax, hfirst⟩
    obtain ⟨p, ⟨hp, hp'⟩, htry, hearlier⟩ := findSome?_protocols_iff.1 hfirst
    obtain ⟨hread, hr⟩ := (tryProtocol_eq_some_iff hlen).1 htry
    rw [hr]
    exact ⟨hgap, hlen, hmin, hmax, hp, hp', rfl, hread, fun q hq hqp => (tryProtocol_eq_none_iff hlen).1 (hearlier q hq hqp)⟩
  · rintro ⟨hgap, hlen, hmin, hmax, hp, hp', hpulse, hread, hearlier⟩
    refine ⟨hgap, r.bits, hlen, hmin, hmax, findSome?_protocols_iff.2 ⟨r.proto, ⟨hp, hp'⟩, ?_, fun q hq hqp => ?_⟩⟩
    · exact (tryProtocol_eq_some_iff hlen).2 ⟨hread, by rw [← hpulse]⟩
    · exact (tryProtocol_eq_none_iff hlen).2 (hearlier q hq hqp)

end Sys2Proof.Machine

/-! ### A burst whose gaps come too close together is never decoded -/

namespace Sys2Proof.Machine

section ShortFrames

open Sys2Proof.Safety

/-- Fewer than 7 intervals hold fewer than 3 bits, and give no frame between any gaps (41_rx_decoder.md R147). -/
theorem rxDecode_of_short {buf : List Nat} {gp gn : Nat} (h : buf.length ≤ 6) : rxDecode buf gp gn = none := by
  refine Option.eq_none_iff_forall_ne_some.2 fun r hr => ?_
  obtain ⟨-, n, hlen, hmin, -⟩ := rxDecode_eq_some_iff.1 hr
  omega

/-- The edge after a gap decodes nothing when fewer than 7 intervals are kept since the gap before. -/
theorem feed_after_gap_short {g h : Segment} {buf : List Dur} (ref : Bool) (gp : Dur) (hg : IsGapLow g) (hh : Measurable h)
    (hlevel : h.level = !g.level) (hshort : buf.length ≤ 6) :
    feed (List.replicate h.ticks h.level) (hearing g ref gp buf) = (hearing h true g.interval [], []) := by
  obtain ⟨hmeas, hgap⟩ := hg
  have hnone : rxDecode (buf.map BitVec.toNat) gp.toNat g.interval.toNat = none :=
    rxDecode_of_short (by rwa [List.length_map])
  rw [feed_after_gap hmeas hgap hh hlevel, hnone, Option.toList_none, ite_self]

/-- The edge after a segment, when fewer than 7 intervals are kept, decodes nothing whether the segment is a gap or not; it keeps at
most one interval more. -/
theorem feed_after_short {g h : Segment} {ref : Bool} {gp : Dur} {buf : List Dur} (hg : Measurable g) (hh : Measurable h)
    (hlevel : h.level = !g.level) (hshort : buf.length ≤ 6) :
    ∃ ref' gp' buf', feed (List.replicate h.ticks h.level) (hearing g ref gp buf) = (hearing h ref' gp' buf', []) ∧
      buf'.length ≤ buf.length + 1 := by
  cases hgap : isGap g.level g.interval with
  | true => exact ⟨_, _, _, feed_after_gap_short ref gp ⟨hg, hgap⟩ hh hlevel hshort, Nat.zero_le _⟩
  | false =>
    have hroom : ref = true → buf.length < Config.rxBufMax := fun _ => hshort.trans_lt (by decide)
    refine ⟨_, _, _, feed_after_data hg hgap hh hlevel hroom, ?_⟩
    cases ref <;> simp

/-- Through few enough segments of any length the decoder decodes nothing, and keeps at most one interval for each. -/
theorem feed_short_run {g last : Segment} {l : List Segment} {ref : Bool} {gp : Dur} {buf : List Dur} (hg : Measurable g)
    (hmeas : ∀ s ∈ l ++ [last], Measurable s) (halt : Alternating (!g.level) (l ++ [last]))
    (hshort : buf.length + l.length ≤ 6) :
    ∃ ref' gp' buf', feed (waveform (l ++ [last])) (hearing g ref gp buf) = (hearing last ref' gp' buf', []) ∧
      buf'.length ≤ buf.length + l.length + 1 := by
  induction l generalizing g ref gp buf with
  | nil =>
    obtain ⟨⟨hlevel, -⟩, -⟩ := halt
    have hlast := hmeas last List.mem_cons_self
    obtain ⟨ref', gp', buf', hfeed, hlen⟩ := feed_after_short (ref := ref) (gp := gp) hg hlast hlevel hshort
    exact ⟨ref', gp', buf', feed_append hfeed rfl, hlen⟩
  | cons h rest ih =>
    obtain ⟨⟨hlevel, -⟩, hrest⟩ := halt
    have hh := hmeas h List.mem_cons_self
    simp only [List.length_cons] at hshort ⊢
    obtain ⟨ref₁, gp₁, buf₁, hfeed₁, hlen₁⟩ := feed_after_short (ref := ref) (gp := gp) (buf := buf) hg hh hlevel (by omega)
    obtain ⟨ref₂, gp₂, buf₂, hfeed₂, hlen₂⟩ := ih (ref := ref₁) (gp := gp₁) (buf := buf₁) hh
      (fun s hs => hmeas s (List.mem_cons_of_mem _ hs)) (by rwa [hlevel]) (by omega)
    exact ⟨ref₂, gp₂, buf₂, feed_append hfeed₁ hfeed₂, by omega⟩

/-- A decoder from which the next rising edge gets no reception: it has seen no edge yet, or it hears a gap with fewer than 7
intervals kept before it. -/
inductive AwaitsRise : RxDecoder → Prop where
  | idle (d : Dur) : AwaitsRise (idling d)
  | gap {g : Segment} (ref : Bool) (gp : Dur) {buf : List Dur} (hgap : IsGapLow g) (hshort : buf.length ≤ 6) :
    AwaitsRise (hearing g ref gp buf)

/-- The rising edge decodes nothing, and no interval is kept at it. -/
theorem AwaitsRise.feed_high {x : RxDecoder} {h : Segment} (hx : AwaitsRise x) (hh : Measurable h) (hlevel : h.level = true) :
    ∃ ref gp, feed (List.replicate h.ticks h.level) x = (hearing h ref gp [], []) := by
  cases hx with
  | idle d => exact ⟨_, _, feed_idling_segment hh hlevel d⟩
  | gap ref gp hgap hshort =>
    exact ⟨_, _, feed_after_gap_short ref gp hgap hh (by rw [hlevel, isGapLow_level hgap]; rfl) hshort⟩

/-- Segments that alternate from high, end in a gap, and are too few for a frame of 3 bits; there may be gaps among them. -/
structure ShortFrame (first : Segment) (rest : List Segment) (gap : Segment) : Prop where
  alternates : Alternating true (first :: rest ++ [gap])
  measurable : ∀ s ∈ first :: rest ++ [gap], Measurable s
  gap : IsGapLow gap
  short : (first :: rest).length ≤ 6

/-- A short frame gives no reception, of itself or of what was before it. -/
theorem ShortFrame.feed_frame {first gap : Segment} {rest : List Segment} {x : RxDecoder} (hf : ShortFrame first rest gap)
    (hx : AwaitsRise x) : ∃ y, AwaitsRise y ∧ feed (waveform (first :: rest ++ [gap])) x = (y, []) := by
  obtain ⟨⟨⟨hlevel, -⟩, halt⟩, hmeas, hgap, hshort⟩ := hf
  rw [List.length_cons] at hshort
  have hfirst := hmeas first List.mem_cons_self
  obtain ⟨ref, gp, hfeed⟩ := hx.feed_high hfirst hlevel
  obtain ⟨ref', gp', buf', hfeed', hlen⟩ := feed_short_run (ref := ref) (gp := gp) (buf := []) hfirst
    (fun s hs => hmeas s (List.mem_cons_of_mem _ hs)) (by rwa [hlevel]) (by rw [List.length_nil]; omega)
  rw [List.length_nil] at hlen
  exact ⟨_, .gap ref' gp' hgap (by omega), feed_append hfeed hfeed'⟩

end ShortFrames

section LongPulses

open Sys2Proof.Safety

/-- Four segments of a protocol-1 burst whose pulse length makes 3 units a gap: the one symbol of a 1 bit, and a high and a low of `k`
units, where the low is that of a 0 bit or of the sync symbol (40_pulse_codec.md R116). -/
theorem shortFrame_of_units {t k : Nat} (ht : 5000 ≤ 3 * t) (ht' : t ≤ 65535) (hk : 3 ≤ k) (hk' : k ≤ 31) :
    ShortFrame ⟨true, 3 * t⟩ [⟨false, 1 * t⟩, ⟨true, 1 * t⟩] ⟨false, k * t⟩ := by
  have hunits (b : Bool) {u : Nat} (hu : 1 ≤ u) (hu' : u ≤ 31) : Measurable ⟨b, u * t⟩ :=
    ⟨Nat.mul_pos hu (by omega), (Nat.mul_le_mul hu' ht').trans (by decide)⟩
  have hgap : Measurable ⟨false, k * t⟩ := hunits false (by omega) hk'
  have hlong : Config.rxGapMin ≤ k * t := ht.trans (Nat.mul_le_mul_right t hk)
  have halt : Alternating true (symbol 3 1 t ++ symbol 1 k t) :=
    alternating_append (symbol_alternating (by decide) (by decide) (by omega)) (Nat.mod_self 2)
      (symbol_alternating (by decide) (by omega) (by omega))
  refine ⟨halt, ?_, ⟨hgap, ?_⟩, ?_⟩
  · simp only [List.cons_append, List.nil_append, List.forall_mem_cons]
    exact ⟨hunits true (by decide) (by decide), hunits false (by decide) (by decide), hunits true (by decide) (by decide),
      hgap, nofun⟩
  · rw [isGap, interval_toNat hgap, decide_eq_true hlong]
    rfl
  · simp only [List.length_cons, List.length_nil]
    decide

/-- A protocol-1 frame of the code `0b101` is twice a 1 bit, a high of one unit and a longer low: the low of the 0 bit, then that of
the sync symbol. -/
theorem frameSegments_code_five (t : Nat) :
    frameSegments (timing 1) t 0b101 3 =
      [⟨true, 3 * t⟩, ⟨false, 1 * t⟩, ⟨true, 1 * t⟩, ⟨false, 3 * t⟩] ++
      [⟨true, 3 * t⟩, ⟨false, 1 * t⟩, ⟨true, 1 * t⟩, ⟨false, 31 * t⟩] := rfl

/-- However many such frames there are, they give no reception. -/
theorem feed_frames_code_five {t : Nat} (ht : 5000 ≤ 3 * t) (ht' : t ≤ 65535) {x : RxDecoder} (hx : AwaitsRise x) (r : Nat) :
    ∃ y, AwaitsRise y ∧
      feed (waveform (List.replicate r (frameSegments (timing 1) t 0b101 3)).flatten) x = (y, []) := by
  induction r generalizing x with
  | zero => exact ⟨x, hx, rfl⟩
  | succ r ih =>
    obtain ⟨y₁, hy₁, hfeed₁⟩ := (shortFrame_of_units (k := 3) ht ht' (by decide) (by decide)).feed_frame hx
    obtain ⟨y₂, hy₂, hfeed₂⟩ := (shortFrame_of_units (k := 31) ht ht' (by decide) (by decide)).feed_frame hy₁
    obtain ⟨y₃, hy₃, hfeed₃⟩ := ih hy₂
    refine ⟨y₃, hy₃, ?_⟩
    rw [List.replicate_succ, List.flatten_cons, waveform_append, frameSegments_code_five, waveform_append]
    exact feed_append (feed_append hfeed₁ hfeed₂) hfeed₃

end LongPulses

/-- Settles O52: the low of the 0 bit is a gap, so that no two gaps of the burst have 7 intervals between them. -/
theorem longPulseBurstNeverDecodes : Obligations.LongPulseBurstNeverDecodes := by
  unfold Obligations.LongPulseBurstNeverDecodes
  intro p idle hproto hcode hbits ht hidle
  have ht' : p.pulse.toNat ≤ 65535 := Nat.le_of_lt_succ p.pulse.isLt
  have hsegments : p.segments =
      (List.replicate p.reps.toNat (frameSegments (timing 1) p.pulse.toNat 0b101 3)).flatten := by
    rw [Profile.segments, hproto, hcode, hbits]
    rfl
  obtain ⟨d, hstart⟩ := feed_idle hidle
  obtain ⟨y, hy, hburst⟩ := feed_frames_code_five ht ht' (.idle d) p.reps.toNat
  obtain ⟨ref, gp, hrise⟩ := hy.feed_high (h := ⟨true, 1⟩) ⟨by decide, by decide⟩ rfl
  have hall := feed_append (feed_append hstart hburst) hrise
  rw [← hsegments] at hall
  exact congrArg Prod.snd hall

end Sys2Proof.Machine

/-! ### CTRL writes, and the commands of the transmitter -/

namespace Sys2Proof.Machine

section TransmitCommands

open Sys2Proof.Safety

variable (s : State)

/-- TX_ACK with no fault recorded. -/
theorem exec_txAck (h : s.fault.code = .none) : exec .txAck s = .next (s.setTxDone false) :=
  congrArg Host.Outcome.next (unlessBlocked_run s _ h)

/-- PROF_CLEAR with no fault recorded. -/
theorem exec_profClear (h : s.fault.code = .none) :
    exec .profClear s = .next ((s.setProf Profile.cleared).setProfValid 0) :=
  congrArg Host.Outcome.next (unlessBlocked_run s _ h)

/-- TX_SEND with no fault recorded and its preconditions met. -/
theorem exec_txSend_of_accepted (h : s.fault.code = .none) (hok : s.txRefusal = none) :
    exec .txSend s = .next s.txStart := by
  rw [exec_txSend s h, hok]

/-- TX_SEND with no fault recorded and a precondition that fails: the fault of its own word (60_exceptions.md R266). -/
theorem exec_txSend_of_refused {code : FaultCode} (h : s.fault.code = .none) (hc : s.txRefusal = some code) :
    exec .txSend s = .next (faulted s code 0x00000001 0x8000000C) := by
  rw [exec_txSend s h, hc]
  exact congrArg Host.Outcome.next (raise_eq_faulted s h)

/-- The first precondition: the engine is idle (42_tx_actuator.md R181). -/
theorem txRefusal_of_busy (hbusy : s.tx.busy = true) : s.txRefusal = some .txBusy := by
  simp [State.txRefusal, hbusy]

/-- The second precondition: TX_EN = 1 (42_tx_actuator.md R181). -/
theorem txRefusal_of_disabled (hidle : s.tx.busy = false) (hen : s.txEn = false) : s.txRefusal = some .txDisabled := by
  simp [State.txRefusal, hidle, hen]

/-- The third precondition: PROF_OK = 1 (42_tx_actuator.md R181). -/
theorem txRefusal_of_invalid (hidle : s.tx.busy = false) (hen : s.txEn = true) (hprof : s.profOk = false) :
    s.txRefusal = some .profileInvalid := by
  simp [State.txRefusal, hidle, hen, hprof]

end TransmitCommands

/-- Settles O9: TX_ACK is not blocked, and writes TX_DONE. -/
theorem txAckResult : Obligations.TxAckResult := by
  unfold Obligations.TxAckResult
  exact fun s hclear => exec_txAck s hclear

/-- Settles O10: PROF_CLEAR is not blocked; with no field set, neither flag of the profile can be 1. -/
theorem profClearResult : Obligations.ProfClearResult := by
  unfold Obligations.ProfClearResult
  intro s hclear
  refine ⟨_, exec_profClear s hclear, rfl, ?_, ?_⟩
  · simp [State.profOk]
  · simp [State.rxEqProf]

/-- Settles O13: the hypotheses are the preconditions of a transmission. -/
theorem txSendStarts : Obligations.TxSendStarts := by
  unfold Obligations.TxSendStarts
  intro s hclear hidle hen hset hcode
  exact exec_txSend_of_accepted s hclear ((txRefusal_none_iff s).2 ⟨hidle, hen, (profOk_iff s).2 ⟨hset, hcode⟩⟩)

/-- Settles O14: in each case the earlier preconditions hold and the next one names the fault. -/
theorem txSendRefused : Obligations.TxSendRefused := by
  unfold Obligations.TxSendRefused
  intro s hclear
  exact ⟨fun hbusy => exec_txSend_of_refused s hclear (txRefusal_of_busy s hbusy),
    fun hidle hen => exec_txSend_of_refused s hclear (txRefusal_of_disabled s hidle hen),
    fun hidle hen hprof => exec_txSend_of_refused s hclear (txRefusal_of_invalid s hidle hen hprof)⟩

/-- Settles O26: the three cases of a CTRL write exclude each other. -/
theorem ctrlWrites : Obligations.CtrlWrites := by
  unfold Obligations.CtrlWrites
  intro s v
  have hwrite : busWrite 0x04 v s = .next (s.writeCtrl v) := busWrite_offset s .ctrl v
  rw [hwrite]
  rcases writeCtrl_cases s v with ⟨htx, hrx, e⟩ | ⟨htx, hbusy, e⟩ | ⟨hboth, hcut, e⟩ <;> rw [e]
  · exact ⟨fun _ _ => rfl, fun hoff => absurd (htx.symm.trans hoff) nofun, fun hboth => absurd ⟨htx, hrx⟩ hboth⟩
  · exact ⟨fun hon => absurd (htx.symm.trans hon) nofun, fun _ _ => rfl, fun _ hcut => absurd ⟨htx, hbusy⟩ hcut⟩
  · exact ⟨fun htx hrx => absurd ⟨htx, hrx⟩ hboth, fun htx hbusy => absurd ⟨htx, hbusy⟩ hcut, fun _ _ => rfl⟩

end Sys2Proof.Machine

/-! ### The channel, and the transmission that no access cuts -/

namespace Sys2Proof.Machine

section ChannelRules

open Sys2Proof.Safety

variable (s : State)

/-- No command writes CTRL. -/
theorem exec_ctrl {i : Instr} {t : State} (h : exec i s = .next t) : t.ctrl = s.ctrl := by
  rcases exec_cases s h with rfl | ⟨_, rfl⟩ | ⟨e, _⟩ | ⟨_, hcmd⟩
  · rfl
  · rfl
  · rw [e]; rfl
  · rcases hcmd with ⟨-, -, rfl⟩ | ⟨-, rfl⟩ | ⟨-, rfl⟩ | ⟨-, rfl⟩ | ⟨-, -, rfl⟩ | ⟨m, -, -, rfl⟩ | ⟨m, -, -, rfl⟩
    · rfl
    · rfl
    · rfl
    · rfl
    · rfl
    · obtain ⟨hctrl, _⟩ := modePoll_kept s m
      exact hctrl
    · obtain ⟨hctrl, _⟩ := cycle_kept s m
      exact hctrl

/-- An access leaves CTRL, or is a CTRL write that enables one channel at most and cuts no transmission (42_tx_actuator.md R185,
R186). -/
theorem accessStage_ctrl_cases {a : Access} {u : State} (h : accessStage a s = .next u) :
    u.ctrl = s.ctrl ∨
    ∃ v : Word, ¬ (v.getLsbD 0 = true ∧ v.getLsbD 1 = true) ∧ ¬ (v.getLsbD 0 = false ∧ s.tx.busy = true) ∧
      u = s.setCtrl (v &&& ctrlMask) := by
  rcases accessStage_cases s h with rfl | ⟨e, _⟩ | ⟨v, _, hboth, hcut, e⟩ | ⟨_, _, _, _, hexec⟩ | ⟨_, _, rfl⟩ |
    ⟨_, _, _, rfl⟩ | ⟨_, _, _, rfl⟩ | ⟨_, _, _, rfl⟩ | ⟨_, _, _, rfl⟩ | ⟨_, _, rfl⟩ | ⟨_, _, rfl⟩
  case inr.inl => rw [e]; exact .inl rfl
  case inr.inr.inl => exact .inr ⟨v, hboth, hcut, e⟩
  case inr.inr.inr.inl => exact .inl (exec_ctrl s hexec)
  all_goals exact .inl rfl

/-- The enables that a CTRL write stores are those of its datum (10_state.md R28). -/
theorem ctrlMask_getLsbD (v : Word) :
    (v &&& ctrlMask).getLsbD 0 = v.getLsbD 0 ∧ (v &&& ctrlMask).getLsbD 1 = v.getLsbD 1 := by
  simp [ctrlMask]

/-- ChannelsLegal speaks of CTRL and of TX_BUSY only, and TX_BUSY may fall. -/
theorem channelsLegal_of_ctrl_eq {s t : State} (hctrl : t.ctrl = s.ctrl) (hbusy : t.tx.busy = true → s.txEn = true)
    (hs : ChannelsLegal s) : ChannelsLegal t := by
  obtain ⟨hexclusive, -, hreserved⟩ := hs
  constructor
  · simpa only [State.txEn, State.rxEn, hctrl] using hexclusive
  · simpa only [State.txEn, hctrl] using hbusy
  · rwa [hctrl]

/-- With CTRL = 0 both channels are disabled, which is legal for an idle engine. -/
theorem channelsLegal_of_off {t : State} (hctrl : t.ctrl = 0) (hidle : t.tx.busy = false) : ChannelsLegal t :=
  ⟨by simp [State.txEn, hctrl], fun hbusy => absurd (hidle.symm.trans hbusy) nofun, by rw [hctrl]; exact BitVec.zero_and⟩

/-- An access keeps ChannelsLegal: a CTRL write is refused where it would break it, and a transmission starts only with
TX_EN = 1. -/
theorem accessStage_keeps_channelsLegal {s u : State} {a : Access} (hs : ChannelsLegal s)
    (h : accessStage a s = .next u) : ChannelsLegal u := by
  rcases accessStage_ctrl_cases s h with hctrl | ⟨v, hboth, hcut, rfl⟩
  · refine channelsLegal_of_ctrl_eq hctrl (fun hbusy => ?_) hs
    rcases accessStage_tx_cases s h with htx | ⟨hok, -⟩
    · exact hs.busy_enabled (htx ▸ hbusy)
    · obtain ⟨-, hen, -⟩ := (txRefusal_none_iff s).1 hok
      exact hen
  · obtain ⟨htxEn, hrxEn⟩ := ctrlMask_getLsbD v
    constructor
    · simpa only [State.txEn, State.rxEn, State.setCtrl_ctrl, htxEn, hrxEn] using hboth
    · intro hbusy
      rw [State.txEn, State.setCtrl_ctrl, htxEn]
      exact eq_true_of_ne_false fun hoff => hcut ⟨hoff, hbusy⟩
    · rw [State.setCtrl_ctrl, BitVec.and_assoc, BitVec.and_not_self]
      exact BitVec.and_zero

/-- A tick of the transmit engine starts nothing: it keeps TX_BUSY or clears it. -/
theorem txStage_busy (c : Bool) (h : (s.txStage c).tx.busy = true) : s.tx.busy = true := by
  rcases txStage_cases s c with ⟨_, e⟩ | ⟨_, hbusy, _⟩
  · rwa [e] at h
  · exact hbusy

/-- What the end of a clock does to the transmit engine and the line is the engine's part of a clock, with a tick or without one. -/
theorem endClock_txStage (div : Nat) (rxIn : Bool) :
    ∃ c, (s.endClock div rxIn).tx = (s.txStage c).tx ∧ (s.endClock div rxIn).rfTxOut = (s.txStage c).rfTxOut := by
  by_cases htick : s.tickCnt = div - 1
  · obtain ⟨htx, -, hline⟩ := endClock_tick_tx s rxIn htick
    exact ⟨true, htx, hline⟩
  · obtain ⟨-, -, hline, htx, -⟩ := endClock_noTick s rxIn htick
    exact ⟨false, htx, hline⟩

/-- The end of a clock starts no transmission. -/
theorem endClock_busy (div : Nat) (rxIn : Bool) (h : (s.endClock div rxIn).tx.busy = true) : s.tx.busy = true := by
  obtain ⟨c, htx, -⟩ := endClock_txStage s div rxIn
  exact txStage_busy s c (htx ▸ h)

/-- The end of a clock keeps ChannelsLegal: it leaves CTRL and starts no transmission. -/
theorem endClock_keeps_channelsLegal {s : State} (div : Nat) (rxIn : Bool) (hs : ChannelsLegal s) :
    ChannelsLegal (s.endClock div rxIn) := by
  obtain ⟨hctrl, -⟩ := endClock_kept s div rxIn
  exact channelsLegal_of_ctrl_eq hctrl (fun hbusy => hs.busy_enabled (endClock_busy s div rxIn hbusy)) hs

/-- A tick ends a transmission only at the end of its list (42_tx_actuator.md R182). -/
theorem txStage_busy_of_work (c : Bool) (hbusy : s.tx.busy = true) (hwork : s.tx.left ≠ 0 ∨ s.tx.pos < s.tx.seq.length) :
    (s.txStage c).tx.busy = true := by
  rcases txStage_cases s c with ⟨_, e⟩ | ⟨_, _, e⟩ <;> rw [e]
  · exact hbusy
  · rcases txTick_cases s.txPort with ⟨_, e⟩ | ⟨hleft, hend, _⟩ | ⟨_, _, _, e⟩
    · rw [e]; exact hbusy
    · have hpos : s.tx.pos < s.tx.seq.length := hwork.resolve_left (not_not.2 hleft)
      exact absurd (List.getElem?_eq_none_iff.1 hend) (Nat.not_le.2 hpos)
    · rw [e]; exact hbusy

end ChannelRules

/-- Settles O37: the reset state is legal, the access keeps the channel legal, and so does the end of the clock. -/
theorem stepKeepsChannelsLegal : Obligations.StepKeepsChannelsLegal := by
  unfold Obligations.StepKeepsChannelsLegal
  intro s t hs hstep
  rcases step_cases s hstep with ⟨_, rfl⟩ | ⟨_, u, hu, rfl⟩
  · exact channelsLegal_of_off rfl rfl
  · have hlegal : Safety.ChannelsLegal u := accessStage_keeps_channelsLegal hs hu
    exact endClock_keeps_channelsLegal _ _ (channelsLegal_of_ctrl_eq (s := u) rfl hlegal.busy_enabled hlegal)

/-- Settles O49: no access writes a busy engine, and a tick of one with work left keeps it busy. -/
theorem transmissionNotCut : Obligations.TransmissionNotCut := by
  unfold Obligations.TransmissionNotCut
  intro s t hrst hbusy hwork hstep
  obtain ⟨u, hu, rfl⟩ := step_out_of_reset s hrst hstep
  have htxKept := accessStage_tx_of_busy s hbusy hu
  rw [← htxKept] at hbusy hwork
  obtain ⟨c, htx, -⟩ := endClock_txStage u Config.tickDiv s.nextInput.rxIn
  rw [State.setReadData_tx, htx]
  exact txStage_busy_of_work u c hbusy hwork

end Sys2Proof.Machine

/-! ### A transmission in progress plays the levels of its segment list -/

namespace Sys2Proof.Machine

section Playing

open Sys2Proof.Safety

/-- A transmission in progress: what TransmitLegal says of a busy engine, but for the line before the first segment
(42_tx_actuator.md R182). -/
structure TxPort.Playing (p : TxPort) : Prop where
  busy : p.engine.busy = true
  snap_legal : ProfileInRange p.engine.snap
  seq_of_snap : p.engine.seq = p.engine.snap.segments
  pos_le : p.engine.pos ≤ p.engine.seq.length
  fresh : p.engine.pos = 0 → p.engine.left = 0
  current : ∀ k, p.engine.pos = k + 1 → ∃ g, p.engine.seq[k]? = some g ∧ p.line = g.level ∧ p.engine.left < g.ticks
  frames : p.engine.frames.toNat = (p.engine.pos - 1) / (2 * p.engine.snap.bits.toNat + 2)

/-- A transmission that has ended: idle, TX_DONE set, every frame of the snapshot counted, the line low (42_tx_actuator.md R183). -/
structure TxPort.Ended (p : TxPort) : Prop where
  idle : p.engine.busy = false
  done : p.done = true
  frames : p.engine.frames = p.engine.snap.reps
  low : p.line = false

/-- The levels still to come: the ticks left of the current segment, then the segments after it (42_tx_actuator.md R182). -/
def TxPort.toCome (p : TxPort) : List Bool :=
  List.replicate p.engine.left p.line ++ waveform (p.engine.seq.drop p.engine.pos)

variable {s t : State}

/-- While the engine is idle, TransmitLegal asks for a low line. -/
theorem transmitLegal_of_idle (hidle : s.tx.busy = false) (hlow : s.rfTxOut = false) : TransmitLegal s :=
  have absurdBusy {P : Prop} (hbusy : s.tx.busy = true) : P := by simp [hidle] at hbusy
  ⟨fun _ => hlow, absurdBusy, absurdBusy, absurdBusy, absurdBusy, absurdBusy, absurdBusy⟩

/-- While the engine is busy, TransmitLegal asks for a transmission in progress that starts from a low line. -/
theorem transmitLegal_of_playing (h : s.txPort.Playing) (hlow : s.tx.pos = 0 → s.rfTxOut = false) : TransmitLegal s :=
  ⟨fun hidle => absurd (hidle.symm.trans h.busy) nofun, fun _ => h.snap_legal, fun _ => h.seq_of_snap, fun _ => h.pos_le,
    fun _ hz => ⟨h.fresh hz, hlow hz⟩, fun _ => h.current, fun _ => h.frames⟩

/-- A busy engine of a legal state has a transmission in progress. -/
theorem playing_of_transmitLegal (hs : TransmitLegal s) (hbusy : s.tx.busy = true) : s.txPort.Playing where
  busy := hbusy
  snap_legal := hs.snap_legal hbusy
  seq_of_snap := hs.seq_of_snap hbusy
  pos_le := hs.pos_le hbusy
  fresh hz := by
    obtain ⟨hleft, -⟩ := hs.fresh hbusy hz
    exact hleft
  current := hs.current hbusy
  frames := hs.frames hbusy

/-- TransmitLegal speaks of the transmit engine and the line only. -/
theorem transmitLegal_of_eq (htx : t.tx = s.tx) (hline : t.rfTxOut = s.rfTxOut) (hs : TransmitLegal s) : TransmitLegal t := by
  obtain ⟨hidle, hsnap, hseq, hpos, hfresh, hcurrent, hframes⟩ := hs
  constructor <;> simpa only [htx, hline]

variable {p : TxPort}

/-- No segment of a transmission in progress is empty, and the low ones are those in odd places (40_pulse_codec.md R120). -/
theorem TxPort.Playing.segment (h : p.Playing) {k : Nat} {g : Segment} (hg : p.engine.seq[k]? = some g) :
    1 ≤ g.ticks ∧ (g.level = true ↔ k % 2 = 0) := by
  rw [h.seq_of_snap] at hg
  exact alternating_getElem? (segments_alternating h.snap_legal) hg

/-- A transmission in progress has `repeat_count` frames of `2n + 2` segments (40_pulse_codec.md R120). -/
theorem TxPort.Playing.seq_length (h : p.Playing) :
    p.engine.seq.length = p.engine.snap.reps.toNat * (2 * p.engine.snap.bits.toNat + 2) := by
  rw [h.seq_of_snap, segments_length]

/-- At the end of a segment TX_FRAMES counts the frames of the segments played; 8 bits hold it, for there are `repeat_count` frames
at most (42_tx_actuator.md R182). -/
theorem TxPort.Playing.framesDone_toNat (h : p.Playing) :
    p.engine.framesDone.toNat = p.engine.pos / (2 * p.engine.snap.bits.toNat + 2) := by
  have hframes := h.frames
  have hle : p.engine.pos / (2 * p.engine.snap.bits.toNat + 2) ≤ p.engine.snap.reps.toNat :=
    Nat.div_le_of_le_mul (by rw [Nat.mul_comm, ← h.seq_length]; exact h.pos_le)
  have hreps := p.engine.snap.reps.isLt
  rw [TxEngine.framesDone]
  cases hpos : p.engine.pos with
  | zero => simpa [hpos] using hframes
  | succ k =>
    rw [hpos, Nat.add_sub_cancel] at hframes
    rw [hpos, Nat.succ_div] at hle
    rw [Nat.succ_div]
    by_cases hend : (k + 1) % (2 * p.engine.snap.bits.toNat + 2) = 0
    · rw [if_pos (Nat.dvd_of_mod_eq_zero hend)] at hle
      rw [if_pos ⟨k.succ_pos, hend⟩, if_pos (Nat.dvd_of_mod_eq_zero hend), ← hframes]
      have hfits : p.engine.frames.toNat + 1 < 2 ^ 8 := by omega
      exact Nat.mod_eq_of_lt hfits
    · rw [if_neg fun hboth => hend hboth.2, if_neg fun hdvd => hend (Nat.mod_eq_zero_of_dvd hdvd)]
      exact hframes

/-- The end of the list: TX_FRAMES is then `repeat_count`, and the last segment, the low of a sync symbol, leaves the line low
(42_tx_actuator.md R183). -/
theorem TxPort.Playing.tick_ended (h : p.Playing) (hend : p.engine.seq[p.engine.pos]? = none)
    (e : p.tick = { engine := { p.engine with busy := false, frames := p.engine.framesDone }, done := true, line := p.line }) :
    p.tick.Ended := by
  have hpos : p.engine.pos = p.engine.snap.reps.toNat * (2 * p.engine.snap.bits.toNat + 2) :=
    (Nat.le_antisymm h.pos_le (List.getElem?_eq_none_iff.1 hend)).trans h.seq_length
  have hframes : p.engine.framesDone = p.engine.snap.reps := by
    refine BitVec.eq_of_toNat_eq ?_
    rw [h.framesDone_toNat, hpos, Nat.mul_div_cancel _ (by omega)]
  have hsome : 1 ≤ p.engine.snap.reps.toNat := h.snap_legal.reps
  have hlow : p.line = false := by
    have hpositive : 0 < p.engine.pos := hpos ▸ Nat.mul_pos hsome (by omega)
    obtain ⟨k, hk⟩ := Nat.exists_eq_add_one.2 hpositive
    obtain ⟨g, hg, hline, -⟩ := h.current k hk
    obtain ⟨-, hparity⟩ := h.segment hg
    have heven : p.engine.pos % 2 = 0 := by
      rw [hpos, ← Nat.mul_add_one 2, Nat.mul_left_comm, Nat.mul_mod_right]
    rw [hline, ← Bool.not_eq_true, hparity]
    omega
  rw [e]
  exact ⟨rfl, rfl, hframes, hlow⟩

/-- A tick of a transmission in progress ends it when no level is to come; else it shows the next level, and the transmission goes on
with the levels after it (42_tx_actuator.md R182). -/
theorem TxPort.Playing.tick_cases (h : p.Playing) :
    (p.toCome = [] ∧ p.tick.Ended) ∨
    (p.toCome = p.tick.line :: p.tick.toCome ∧ p.tick.Playing ∧ p.tick.engine.pos ≠ 0) := by
  rcases txTick_cases p with ⟨hleft, e⟩ | ⟨hleft, hend, e⟩ | ⟨g, hleft, hg, e⟩
  · refine .inr ⟨?_, ?_, ?_⟩
    · obtain ⟨n, hn⟩ := Nat.exists_eq_succ_of_ne_zero hleft
      rw [e, TxPort.toCome, TxPort.toCome, hn]
      rfl
    · rw [e]
      refine ⟨h.busy, h.snap_legal, h.seq_of_snap, h.pos_le, fun hz => absurd (h.fresh hz) hleft, fun k hk => ?_, h.frames⟩
      obtain ⟨g, hg, hline, hlt⟩ := h.current k hk
      exact ⟨g, hg, hline, (Nat.sub_le _ _).trans_lt hlt⟩
    · rw [e]
      exact fun hz => hleft (h.fresh hz)
  · refine .inl ⟨?_, h.tick_ended hend e⟩
    rw [TxPort.toCome, hleft, List.drop_eq_nil_of_le (List.getElem?_eq_none_iff.1 hend)]
    rfl
  · obtain ⟨hpos, hget⟩ := List.getElem?_eq_some_iff.1 hg
    obtain ⟨hticks, -⟩ := h.segment hg
    refine .inr ⟨?_, ?_, ?_⟩
    · obtain ⟨n, hn⟩ := Nat.exists_eq_add_one.2 hticks
      rw [e, TxPort.toCome, TxPort.toCome, hleft, List.drop_eq_getElem_cons hpos, hget, waveform_cons, hn]
      rfl
    · rw [e]
      refine ⟨h.busy, h.snap_legal, h.seq_of_snap, hpos, nofun, fun k hk => ?_, h.framesDone_toNat⟩
      obtain rfl : p.engine.pos = k := Nat.succ_inj.1 hk
      exact ⟨g, hg, rfl, Nat.sub_lt hticks Nat.one_pos⟩
    · rw [e]
      exact Nat.succ_ne_zero _

end Playing

section TransmitInvariant

open Sys2Proof.Safety

/-- With every field set, a legal profile is in range (40_pulse_codec.md R110). -/
theorem profileInRange_of_profOk {s : State} (hs : ProfileLegal s) (hok : s.profOk = true) : ProfileInRange s.prof := by
  obtain ⟨hset, -⟩ := (profOk_iff s).1 hok
  obtain ⟨-, hproto, hpulse, hbits, hreps⟩ := hs
  rw [hset] at hproto hpulse hbits hreps
  exact ⟨hproto, hpulse, hbits, hreps⟩

/-- A transmission just started on a profile in range is in progress (42_tx_actuator.md R181). -/
theorem txStart_playing {s : State} (h : ProfileInRange s.prof) : s.txStart.txPort.Playing :=
  ⟨rfl, h, rfl, Nat.zero_le _, fun _ => rfl, nofun, (Nat.zero_div _).symm⟩

/-- An access keeps TransmitLegal: it leaves the engine, or starts a valid profile on the low line of an idle one. -/
theorem accessStage_keeps_transmitLegal {s u : State} {a : Access} (hs : TransmitLegal s) (hprof : ProfileLegal s)
    (h : accessStage a s = .next u) : TransmitLegal u := by
  obtain ⟨_, _, hline, _⟩ := accessStage_kept s h
  rcases accessStage_tx_cases s h with htx | ⟨haccepted, htx⟩
  · exact transmitLegal_of_eq htx hline hs
  · obtain ⟨hidle, -, hok⟩ := (txRefusal_none_iff s).1 haccepted
    refine transmitLegal_of_eq (s := s.txStart) htx hline (transmitLegal_of_playing ?_ fun _ => ?_)
    · exact txStart_playing (profileInRange_of_profOk hprof hok)
    · exact hs.idle_low hidle

/-- The engine's part of a clock keeps TransmitLegal. -/
theorem txStage_keeps_transmitLegal {s : State} (c : Bool) (hs : TransmitLegal s) : TransmitLegal (s.txStage c) := by
  rcases txStage_cases s c with ⟨_, e⟩ | ⟨_, hbusy, e⟩ <;> rw [e]
  · exact hs
  · rcases (playing_of_transmitLegal hs hbusy).tick_cases with ⟨-, hended⟩ | ⟨-, hplaying, hpos⟩
    · exact transmitLegal_of_idle hended.idle hended.low
    · exact transmitLegal_of_playing hplaying fun hz => absurd hz hpos

/-- The end of a clock keeps TransmitLegal: to the engine and the line it does the engine's part of a clock. -/
theorem endClock_keeps_transmitLegal {s : State} (div : Nat) (rxIn : Bool) (hs : TransmitLegal s) :
    TransmitLegal (s.endClock div rxIn) := by
  obtain ⟨c, htx, hline⟩ := endClock_txStage s div rxIn
  exact transmitLegal_of_eq htx hline (txStage_keeps_transmitLegal c hs)

end TransmitInvariant

/-- Settles O42: a reset clock leaves the engine idle and the line low, and the access and the tick of any other clock keep the
invariant. -/
theorem stepKeepsTransmitLegal : Obligations.StepKeepsTransmitLegal := by
  unfold Obligations.StepKeepsTransmitLegal
  intro s t hs hprof _ hstep
  rcases step_cases s hstep with ⟨_, rfl⟩ | ⟨_, u, hu, rfl⟩
  · exact transmitLegal_of_idle rfl rfl
  · have hlegal : Safety.TransmitLegal u := accessStage_keeps_transmitLegal hs hprof hu
    exact endClock_keeps_transmitLegal _ _ (transmitLegal_of_eq (s := u) rfl rfl hlegal)

section TransmissionTiming

open Sys2Proof.Safety

/-- The waveform of a list has one level for each tick. -/
theorem waveform_length (l : List Segment) : (waveform l).length = totalTicks l := by
  induction l with
  | nil => rfl
  | cons g rest ih => rw [waveform_cons, List.length_append, List.length_replicate, ih]; rfl

/-- At a tick, the engine's part of a clock is a tick of its port while a transmission is in progress. -/
theorem txStage_txPort_of_playing {s : State} (h : s.txPort.Playing) : (s.txStage true).txPort = s.txPort.tick := by
  rcases txStage_cases s true with ⟨hidle, _⟩ | ⟨_, _, e⟩
  · exact absurd ⟨rfl, h.busy⟩ hidle
  · rw [e]; rfl

/-- A tick with levels to come shows the first of them, and the transmission goes on with the others. -/
theorem txStage_of_toCome_cons {s : State} {b : Bool} {l : List Bool} (h : s.txPort.Playing) (hl : s.txPort.toCome = b :: l) :
    (s.txStage true).txPort.Playing ∧ (s.txStage true).rfTxOut = b ∧ (s.txStage true).txPort.toCome = l := by
  rcases h.tick_cases with ⟨hnil, -⟩ | ⟨hcons, hplaying, -⟩
  · exact absurd (hnil.symm.trans hl) nofun
  · rw [← txStage_txPort_of_playing h] at hcons hplaying
    obtain ⟨hline, hrest⟩ := List.cons_eq_cons.1 (hcons.symm.trans hl)
    exact ⟨hplaying, hline, hrest⟩

/-- A tick with no level to come ends the transmission. -/
theorem txStage_of_toCome_nil {s : State} (h : s.txPort.Playing) (hl : s.txPort.toCome = []) :
    (s.txStage true).txPort.Ended := by
  rcases h.tick_cases with ⟨-, hended⟩ | ⟨hcons, -⟩
  · rwa [txStage_txPort_of_playing h]
  · exact absurd (hl.symm.trans hcons) nofun

/-- The level to come in place `k` is on the line after `k + 1` ticks, and the engine is then busy. -/
theorem txTicks_line {s : State} {k : Nat} {b : Bool} (h : s.txPort.Playing) (hb : s.txPort.toCome[k]? = some b) :
    (txTicks (k + 1) s).rfTxOut = b ∧ (txTicks (k + 1) s).tx.busy = true := by
  induction k generalizing s with
  | zero =>
    obtain ⟨l, hl⟩ := List.head?_eq_some_iff.1 (List.head?_eq_getElem?.trans hb)
    obtain ⟨hplaying, hline, -⟩ := txStage_of_toCome_cons h hl
    exact ⟨hline, hplaying.busy⟩
  | succ k ih =>
    cases hl : s.txPort.toCome with
    | nil => rw [hl] at hb; cases hb
    | cons b' l =>
      obtain ⟨hplaying, -, hrest⟩ := txStage_of_toCome_cons h hl
      rw [hl, List.getElem?_cons_succ, ← hrest] at hb
      exact ih hplaying hb

/-- A transmission is busy for as many ticks as it has levels to come, and the tick after them ends it, its snapshot being the same
throughout. -/
theorem txTicks_end {s : State} {n : Nat} (h : s.txPort.Playing) (hn : s.txPort.toCome.length = n) :
    (txTicks n s).tx.busy = true ∧ (txTicks (n + 1) s).txPort.Ended ∧ (txTicks (n + 1) s).tx.snap = s.tx.snap := by
  obtain ⟨hsnap, -⟩ := txStage_snap_seq s true
  induction n generalizing s with
  | zero => exact ⟨h.busy, txStage_of_toCome_nil h (List.length_eq_zero_iff.1 hn), hsnap⟩
  | succ n ih =>
    obtain ⟨b, l, hl⟩ := List.exists_cons_of_length_eq_add_one hn
    obtain ⟨hplaying, -, hrest⟩ := txStage_of_toCome_cons h hl
    have hlength : (s.txStage true).txPort.toCome.length = n := by
      rw [hl] at hn
      rw [hrest]
      exact Nat.succ_inj.1 hn
    obtain ⟨hsnap', -⟩ := txStage_snap_seq (s.txStage true) true
    obtain ⟨hbusy, hended, hkept⟩ := ih hplaying hlength hsnap'
    exact ⟨hbusy, hended, hkept.trans hsnap⟩

end TransmissionTiming

/-- Settles O44: at the start the levels to come are those of the whole list, `repeat_count * F` of them. -/
theorem transmissionEndsOnTime : Obligations.TransmissionEndsOnTime := by
  unfold Obligations.TransmissionEndsOnTime
  rintro s u hprof rfl
  have hlength : s.txStart.txPort.toCome.length = s.prof.reps.toNat * s.prof.frameTicks :=
    (waveform_length s.prof.segments).trans (totalTicks_segments s.prof)
  obtain ⟨hbusy, hended, hsnap⟩ := txTicks_end (txStart_playing hprof) hlength
  exact ⟨hended.idle, hended.done, hended.frames.trans (congrArg Profile.reps hsnap), hended.low, hbusy⟩

/-- Settles O45: at the start the levels to come are the waveform of the list, and each tick takes the first of them. -/
theorem lineFollowsSegments : Obligations.LineFollowsSegments := by
  unfold Obligations.LineFollowsSegments
  exact fun s k b hprof hb => txTicks_line (txStart_playing hprof) hb

end Sys2Proof.Machine

/-! ### The controller: classification, CTL_MODE and CTL_CYCLE -/

namespace Sys2Proof.Machine

section ControllerRules

open Sys2Proof.Safety

/-- The three classes of a sample exclude each other: BAD is tested first (43_control_fsm.md R200, R201). -/
theorem classify_cases (v t : Int) :
    (t < v ∧ classify v t = .bad) ∨ (¬ t < v ∧ 100 < v ∧ classify v t = .danger) ∨
    (¬ t < v ∧ ¬ 100 < v ∧ classify v t = .ok) := by
  have hlimit : Config.dangerLimit = 100 := rfl
  rw [classify, hlimit]
  split_ifs with hbad hdanger
  · exact .inl ⟨hbad, rfl⟩
  · exact .inr (.inl ⟨hbad, hdanger, rfl⟩)
  · exact .inr (.inr ⟨hbad, hdanger, rfl⟩)

/-- The bits of two lists of intents together (43_control_fsm.md R203). -/
theorem intentMask_append (l₁ l₂ : List Intent) : intentMask (l₁ ++ l₂) = intentMask l₁ ||| intentMask l₂ := by
  induction l₁ with
  | nil => exact BitVec.zero_or.symm
  | cons i l₁ ih =>
    calc intentMask (i :: l₁ ++ l₂)
        = 1#18 <<< i.bit ||| intentMask (l₁ ++ l₂) := rfl
      _ = 1#18 <<< i.bit ||| intentMask l₁ ||| intentMask l₂ := by rw [ih, BitVec.or_assoc]

/-- The threshold notification is bit 17, emitted when the threshold is new (43_control_fsm.md R213). -/
theorem intentMask_threshIntents (prev : Option Sample) (t : Sample) :
    intentMask (threshIntents prev t) = if decide (prev ≠ some t) then 0x20000 else 0 := by
  by_cases h : prev = some t
  · simp [threshIntents, h, intentMask]
  · simp [threshIntents, h, intentMask, Intent.bit]

/-- Step 6 of a cycle (43_control_fsm.md R214). -/
theorem loopAfter_eq (m : Mode) (l : LoopState) : loopAfter m l = if m = .notOn then .outer else l := by
  cases m <;> rfl

/-- Step 3 of a cycle changes the shadow flag exactly when it toggles (43_control_fsm.md R211). -/
theorem activeAfter_ne_iff (cls : SampleClass) (active : Bool) :
    activeAfter cls active ≠ active ↔ toggleDue cls active = true := by
  cases cls <;> cases active <;> decide

variable (s : State)

/-- The class of the sample in the operand registers. -/
theorem cycleClass_cases :
    (s.ctlThresh.toInt < s.ctlValue.toInt ∧ s.cycleClass = .bad) ∨
    (¬ s.ctlThresh.toInt < s.ctlValue.toInt ∧ 100 < s.ctlValue.toInt ∧ s.cycleClass = .danger) ∨
    (¬ s.ctlThresh.toInt < s.ctlValue.toInt ∧ ¬ 100 < s.ctlValue.toInt ∧ s.cycleClass = .ok) :=
  classify_cases s.ctlValue.toInt s.ctlThresh.toInt

/-- The intents of a cycle are those of the table (95_test_vectors.md section 2.7). -/
theorem intentMask_cycle (active : Bool) (prev : Option Sample) (t : Sample) :
    intentMask (.telemetry :: classIntents s.cycleClass active ++ threshIntents prev t) =
      intentTable s.ctlValue.toInt s.ctlThresh.toInt active (decide (prev ≠ some t)) := by
  rw [intentMask_append, intentMask_threshIntents, intentTable]
  congr 1
  rcases cycleClass_cases s with ⟨hbad, e⟩ | ⟨hbad, hdanger, e⟩ | ⟨hbad, hdanger, e⟩
  · rw [e, if_pos hbad]
    cases active <;> rfl
  · rw [e, if_neg hbad, if_pos hdanger]
    cases active <;> rfl
  · rw [e, if_neg hbad, if_neg hdanger]
    cases active <;> rfl

/-- What a cycle writes into the controller (43_control_fsm.md R210, R211, R214). -/
theorem cycle_ctl_eq (m : Mode) :
    ({ loop := loopAfter m s.ctl.loop
       prevMode := s.ctl.prevMode
       actuatorActive := activeAfter s.cycleClass s.ctl.actuatorActive
       prevThresh := some s.ctlThresh
       lastClass := s.cycleClass } : ControlState) = (cycleResult m s).ctl := by
  rw [cycleResult, loopAfter_eq]
  rcases cycleClass_cases s with ⟨hbad, e⟩ | ⟨hbad, hdanger, e⟩ | ⟨hbad, hdanger, e⟩
  · simp only [e, activeAfter, if_pos hbad]
  · simp only [e, activeAfter, if_neg hbad, if_pos hdanger]
  · simp only [e, activeAfter, if_neg hbad, if_neg hdanger]

/-- A cycle has the result of the tables, and starts a transmission when it toggles by itself (43_control_fsm.md R210, R212). -/
theorem cycle_eq (m : Mode) :
    s.cycle m = if s.autoToggle then { cycleResult m s with tx := startedEngine s.prof } else cycleResult m s := by
  simp only [State.cycle, complete_eq, intentMask_cycle, cycle_ctl_eq s m]
  rfl

/-- A toggle is due exactly on an edge of the shadow flag (43_control_fsm.md R211). -/
theorem toggleDue_iff : toggleDue s.cycleClass s.ctl.actuatorActive = true ↔ EdgeDue s := by
  rw [EdgeDue]
  rcases cycleClass_cases s with ⟨hbad, e⟩ | ⟨hbad, hdanger, e⟩ | ⟨hbad, hdanger, e⟩ <;> rw [e]
  · simp [toggleDue, hbad, Int.not_le.2 hbad]
  · simp [toggleDue, hbad, Int.not_le.2 hdanger]
  · simp [toggleDue, hbad, Int.not_lt.1 hbad, Int.not_lt.1 hdanger]

/-- A cycle toggles by itself with AUTO_TX = 1 and a toggle due (43_control_fsm.md R212). -/
theorem autoToggle_iff : s.autoToggle = true ↔ s.ctrl.getLsbD 2 = true ∧ EdgeDue s := by
  rw [State.autoToggle, Bool.and_eq_true, toggleDue_iff, and_comm, State.autoTx]

/-- With AUTO_TX = 0, or with no toggle due, a cycle starts no transmission. -/
theorem autoToggle_eq_false (h : s.ctrl.getLsbD 2 = false ∨ ¬ EdgeDue s) : s.autoToggle = false := by
  rw [Bool.eq_false_iff, Ne, autoToggle_iff]
  rintro ⟨hauto, hedge⟩
  rcases h with hoff | hnone
  · exact absurd (hoff.symm.trans hauto) nofun
  · exact hnone hedge

/-- The table's TOGGLE bit is set exactly when a toggle is due (43_control_fsm.md R211). -/
theorem cycleResult_toggle_iff (m : Mode) : (cycleResult m s).intent.getLsbD Intent.toggle.bit = true ↔ EdgeDue s := by
  have hnotify : ∀ b : Bool, (if b then 0x20000 else 0 : IntentMask).getLsbD 9 = false := by decide
  rw [← toggleDue_iff, cycleResult, intentTable, Intent.bit, BitVec.getLsbD_or, hnotify, Bool.or_false]
  rcases cycleClass_cases s with ⟨hbad, e⟩ | ⟨hbad, hdanger, e⟩ | ⟨hbad, hdanger, e⟩
  · rw [e, if_pos hbad]
    cases s.ctl.actuatorActive <;> decide
  · rw [e, if_neg hbad, if_pos hdanger]
    cases s.ctl.actuatorActive <;> decide
  · rw [e, if_neg hbad, if_neg hdanger]
    cases s.ctl.actuatorActive <;> decide

/-- The shadow flag changes exactly when a toggle is due (43_control_fsm.md R211). -/
theorem cycleResult_active_ne_iff (m : Mode) :
    (cycleResult m s).ctl.actuatorActive ≠ s.ctl.actuatorActive ↔ EdgeDue s := by
  rw [← toggleDue_iff, ← cycle_ctl_eq]
  exact activeAfter_ne_iff s.cycleClass s.ctl.actuatorActive

/-- A cycle in OUTER is refused (43_control_fsm.md R210). -/
theorem cycleRefusal_of_outer (hloop : s.ctl.loop = .outer) : s.cycleRefusal = some .sequence := by
  rw [State.cycleRefusal, hloop]

/-- A cycle in ACTIVE is refused as the transmission it starts would be (43_control_fsm.md R210, R215). -/
theorem cycleRefusal_of_active (hloop : s.ctl.loop = .active) :
    s.cycleRefusal = if s.autoToggle then s.txRefusal else none := by
  rw [State.cycleRefusal, hloop]

/-- A CTL_CYCLE that is refused records the fault with its own word (60_exceptions.md R266). -/
theorem exec_ctlCycle_of_refused {code : FaultCode} (m : Mode) (h : s.fault.code = .none)
    (hc : s.cycleRefusal = some code) :
    exec (.ctlCycle m) s = .next (faulted s code (encode (.ctlCycle m)) 0x8000000C) := by
  rw [exec_ctlCycle s m h, hc]
  exact congrArg Host.Outcome.next (raise_eq_faulted s h)

/-- A CTL_CYCLE in ACTIVE that starts no transmission has the result of the tables. -/
theorem exec_ctlCycle_of_no_toggle (m : Mode) (h : s.fault.code = .none) (hloop : s.ctl.loop = .active)
    (htoggle : s.autoToggle = false) : exec (.ctlCycle m) s = .next (cycleResult m s) := by
  have hok : s.cycleRefusal = none := by rw [cycleRefusal_of_active s hloop, htoggle]; rfl
  rw [exec_ctlCycle s m h, hok, cycle_eq, htoggle]
  rfl

/-- A CTL_CYCLE in ACTIVE that toggles by itself faults as its TX_SEND would. -/
theorem exec_ctlCycle_of_toggle_refused {code : FaultCode} (m : Mode) (h : s.fault.code = .none)
    (hloop : s.ctl.loop = .active) (htoggle : s.autoToggle = true) (hc : s.txRefusal = some code) :
    exec (.ctlCycle m) s = .next (faulted s code (encode (.ctlCycle m)) 0x8000000C) :=
  exec_ctlCycle_of_refused s m h (by rw [cycleRefusal_of_active s hloop, htoggle, hc]; rfl)

/-- A CTL_CYCLE in ACTIVE that toggles by itself and is not refused starts a transmission of the profile. -/
theorem exec_ctlCycle_of_toggle (m : Mode) (h : s.fault.code = .none) (hloop : s.ctl.loop = .active)
    (htoggle : s.autoToggle = true) (hok : s.txRefusal = none) :
    exec (.ctlCycle m) s = .next { cycleResult m s with tx := startedEngine s.prof } := by
  have hcycle : s.cycleRefusal = none := by rw [cycleRefusal_of_active s hloop, htoggle, hok]; rfl
  rw [exec_ctlCycle s m h, hcycle, cycle_eq, htoggle]
  rfl

/-- A CTL_CYCLE that leaves no fault has completed: the controller and INTENT are those of the tables. -/
theorem exec_ctlCycle_completed {m : Mode} {t : State} (h : s.fault.code = .none) (ht : t.fault.code = .none)
    (hexec : exec (.ctlCycle m) s = .next t) : t.ctl = (cycleResult m s).ctl ∧ t.intent = (cycleResult m s).intent := by
  cases hc : s.cycleRefusal with
  | some code =>
    rw [exec_ctlCycle_of_refused s m h hc] at hexec
    cases hexec
    exact absurd ht (cycleRefusal_ne_none s hc)
  | none =>
    rw [exec_ctlCycle s m h, hc, cycle_eq] at hexec
    cases hexec
    cases s.autoToggle <;> exact ⟨rfl, rfl⟩

/-- CTL_MODE in ACTIVE faults with its own word (43_control_fsm.md R206). -/
theorem exec_ctlMode_of_active (m : Mode) (h : s.fault.code = .none) (hloop : s.ctl.loop = .active) :
    exec (.ctlMode m) s = .next (faulted s .sequence (encode (.ctlMode m)) 0x8000000C) := by
  rw [exec_ctlMode s m h, hloop]
  exact congrArg Host.Outcome.next (raise_eq_faulted s h)

/-- CTL_MODE in OUTER polls the mode (43_control_fsm.md R206). -/
theorem exec_ctlMode_of_outer (m : Mode) (h : s.fault.code = .none) (hloop : s.ctl.loop = .outer) :
    exec (.ctlMode m) s = .next (s.modePoll m) := by
  rw [exec_ctlMode s m h, hloop]

/-- CTL_MODE ON in OUTER: the ON transition, or no change (43_control_fsm.md R207, R209). -/
theorem modePoll_on :
    s.modePoll .on =
      if s.ctl.prevMode = .on then { s with intent := 0, ctlSeq := s.ctlSeq + 1 }
      else { s with
        ctl := { s.ctl with loop := .active, prevMode := .on, prevThresh := none }
        intent := 0x0000B, ctlSeq := s.ctlSeq + 1 } := by
  rw [State.modePoll, ite_not]
  rfl

/-- CTL_MODE OFF in OUTER: the OFF transition, or no change (43_control_fsm.md R208, R209). -/
theorem modePoll_notOn :
    s.modePoll .notOn =
      if s.ctl.prevMode = .notOn then { s with intent := 0, ctlSeq := s.ctlSeq + 1 }
      else { s with
        ctl := { s.ctl with actuatorActive := false, prevMode := .notOn }
        intent := 0x00015, ctlSeq := s.ctlSeq + 1 } := by
  rw [State.modePoll, ite_not]
  rfl

end ControllerRules

/-- Settles O57: the classes exclude each other, and DANGER lies above 100 and not above the threshold. -/
theorem classificationTable : Obligations.ClassificationTable := by
  unfold Obligations.ClassificationTable
  intro v t
  rcases classify_cases v t with ⟨hbad, e⟩ | ⟨hbad, hdanger, e⟩ | ⟨hbad, hdanger, e⟩ <;> rw [e]
  · exact ⟨iff_of_true rfl hbad, iff_of_false nofun (by omega), iff_of_false nofun (by omega), fun _ => nofun⟩
  · exact ⟨iff_of_false nofun hbad, iff_of_true rfl (by omega), iff_of_false nofun (by omega), fun ht => by omega⟩
  · exact ⟨iff_of_false nofun hbad, iff_of_false nofun (by omega), iff_of_true rfl (by omega), fun _ => nofun⟩

/-- Settles O15: a CTL_MODE in OUTER polls the mode. -/
theorem ctlModeResult : Obligations.CtlModeResult := by
  unfold Obligations.CtlModeResult
  intro s hclear hloop
  rw [exec_ctlMode_of_outer s .on hclear hloop, exec_ctlMode_of_outer s .notOn hclear hloop, modePoll_on, modePoll_notOn]
  exact ⟨rfl, rfl⟩

/-- Settles O16: the words of the two forms are 0x110 and 0x010. -/
theorem ctlModeInActiveFaults : Obligations.CtlModeInActiveFaults := by
  unfold Obligations.CtlModeInActiveFaults
  exact fun s hclear hloop => ⟨exec_ctlMode_of_active s .on hclear hloop, exec_ctlMode_of_active s .notOn hclear hloop⟩

/-- Settles O17: with AUTO_TX = 0 or no toggle due the cycle does not toggle by itself. -/
theorem ctlCycleResult : Obligations.CtlCycleResult := by
  unfold Obligations.CtlCycleResult
  exact fun m s hclear hloop hoff => exec_ctlCycle_of_no_toggle s m hclear hloop (autoToggle_eq_false s hoff)

/-- Settles O18: the hypotheses on the channel are the preconditions of a transmission. -/
theorem ctlCycleAutoToggle : Obligations.CtlCycleAutoToggle := by
  unfold Obligations.CtlCycleAutoToggle
  intro m s hclear hloop hauto hedge hidle hen hprof
  exact exec_ctlCycle_of_toggle s m hclear hloop ((autoToggle_iff s).2 ⟨hauto, hedge⟩)
    ((txRefusal_none_iff s).2 ⟨hidle, hen, hprof⟩)

/-- Settles O19: in ACTIVE the refusal is that of the transmission, its preconditions tested in their order. -/
theorem ctlCycleRefused : Obligations.CtlCycleRefused := by
  unfold Obligations.CtlCycleRefused
  intro m s hclear
  refine ⟨fun hloop => exec_ctlCycle_of_refused s m hclear (cycleRefusal_of_outer s hloop), fun hloop hauto hedge => ?_⟩
  have hrefused {code : FaultCode} := exec_ctlCycle_of_toggle_refused (code := code) s m hclear hloop
    ((autoToggle_iff s).2 ⟨hauto, hedge⟩)
  exact ⟨fun hbusy => hrefused (txRefusal_of_busy s hbusy), fun hidle hen => hrefused (txRefusal_of_disabled s hidle hen),
    fun hidle hen hprof => hrefused (txRefusal_of_invalid s hidle hen hprof)⟩

/-- Settles O58: TOGGLE and the change of the flag are both the edge. -/
theorem toggleOnlyOnEdges : Obligations.ToggleOnlyOnEdges := by
  unfold Obligations.ToggleOnlyOnEdges
  intro m s t hclear _ hexec ht
  obtain ⟨hctl, hintent⟩ := exec_ctlCycle_completed s hclear ht hexec
  rw [hctl, hintent]
  exact (cycleResult_toggle_iff s m).trans (cycleResult_active_ne_iff s m).symm

end Sys2Proof.Machine

/-! ### Runs of the controller: its invariant, the count of toggles, and the way back into ACTIVE -/

namespace Sys2Proof.Machine

section ControllerRuns

open Sys2Proof.Safety

/-- ControlLegal speaks of the controller only. -/
theorem controlLegal_of_ctl_eq {s t : State} (hctl : t.ctl = s.ctl) (hs : ControlLegal s) : ControlLegal t := by
  obtain ⟨hinactive, hactive⟩ := hs
  exact ⟨hctl ▸ hinactive, hctl ▸ hactive⟩

/-- The ON transition sets `prev_mode` to ON, the OFF transition clears the flag and stays in OUTER (43_control_fsm.md R207,
R208). -/
theorem modePoll_keeps_controlLegal {s : State} (m : Mode) (hloop : s.ctl.loop = .outer) (hs : ControlLegal s) :
    ControlLegal (s.modePoll m) := by
  rcases modePoll_cases s m with ⟨-, -, e⟩ | ⟨-, -, e⟩ | ⟨-, e⟩ <;> rw [e]
  · exact ⟨fun hoff => absurd rfl hoff, fun _ => rfl⟩
  · exact ⟨fun _ => rfl, fun hactive => absurd (hloop.symm.trans hactive) nofun⟩
  · exact controlLegal_of_ctl_eq (s := s) rfl hs

/-- A cycle that is not refused starts in ACTIVE, so with `prev_mode` = ON, and leaves `prev_mode` (43_control_fsm.md R210). -/
theorem cycle_keeps_controlLegal {s : State} (m : Mode) (hloop : s.ctl.loop = .active) (hs : ControlLegal s) :
    ControlLegal (s.cycle m) := by
  have hmode : (s.cycle m).ctl.prevMode = .on := by
    rw [cycle_eq, ← hs.active_loop_on hloop]
    cases s.autoToggle <;> rfl
  exact ⟨fun hoff => absurd hmode hoff, fun _ => hmode⟩

/-- Every command keeps ControlLegal: only CTL_MODE and CTL_CYCLE reach the controller. -/
theorem exec_keeps_controlLegal {i : Instr} {s t : State} (hs : ControlLegal s) (h : exec i s = .next t) : ControlLegal t := by
  rcases exec_cases s h with rfl | ⟨_, rfl⟩ | ⟨e, _⟩ | ⟨_, hcmd⟩
  · exact hs
  · exact controlLegal_of_ctl_eq (s := s) rfl hs
  · exact controlLegal_of_ctl_eq (by rw [e]; rfl) hs
  · rcases hcmd with ⟨-, -, rfl⟩ | ⟨-, rfl⟩ | ⟨-, rfl⟩ | ⟨-, rfl⟩ | ⟨-, -, rfl⟩ | ⟨m, -, hloop, rfl⟩ | ⟨m, -, hok, rfl⟩
    · exact controlLegal_of_ctl_eq (s := s) rfl hs
    · exact controlLegal_of_ctl_eq (s := s) rfl hs
    · exact controlLegal_of_ctl_eq (s := s) rfl hs
    · exact controlLegal_of_ctl_eq (s := s) rfl hs
    · exact controlLegal_of_ctl_eq (s := s) rfl hs
    · exact modePoll_keeps_controlLegal m hloop hs
    · cases hloop : s.ctl.loop with
      | outer => exact absurd (hok.symm.trans (cycleRefusal_of_outer s hloop)) nofun
      | active => exact cycle_keeps_controlLegal m hloop hs

/-- An access reaches the controller only through a command. -/
theorem accessStage_keeps_controlLegal {s u : State} {a : Access} (hs : ControlLegal s) (h : accessStage a s = .next u) :
    ControlLegal u := by
  rcases accessStage_cases s h with rfl | ⟨e, _⟩ | ⟨_, _, _, _, rfl⟩ | ⟨_, _, _, _, hexec⟩ | ⟨_, _, rfl⟩ |
    ⟨_, _, _, rfl⟩ | ⟨_, _, _, rfl⟩ | ⟨_, _, _, rfl⟩ | ⟨_, _, _, rfl⟩ | ⟨_, _, rfl⟩ | ⟨_, _, rfl⟩
  case inl => exact hs
  case inr.inl => exact controlLegal_of_ctl_eq (by rw [e]; rfl) hs
  case inr.inr.inr.inl => exact exec_keeps_controlLegal hs hexec
  all_goals exact controlLegal_of_ctl_eq (s := s) rfl hs

/-- One sample of a run: an edge of BAD-ness where the table sets TOGGLE, and then the flag is the last BAD-or-OK class
(43_control_fsm.md R211, R218). -/
theorem badEdges_cons (m : Mode) (s : State) (l : List Int) :
    badEdges s.ctlThresh.toInt (s.ctlValue.toInt :: l) s.ctl.actuatorActive =
      (if (cycleResult m s).intent.getLsbD Intent.toggle.bit then 1 else 0) +
        badEdges s.ctlThresh.toInt l (cycleResult m s).ctl.actuatorActive := by
  have htoggle : (cycleResult m s).intent.getLsbD Intent.toggle.bit = toggleDue s.cycleClass s.ctl.actuatorActive :=
    Bool.eq_iff_iff.2 ((cycleResult_toggle_iff s m).trans (toggleDue_iff s).symm)
  rw [htoggle, ← cycle_ctl_eq, badEdges]
  rcases cycleClass_cases s with ⟨hbad, e⟩ | ⟨hbad, hdanger, e⟩ | ⟨hbad, hdanger, e⟩
  · rw [e, if_pos hbad]
    cases s.ctl.actuatorActive <;> rfl
  · rw [e, if_neg hbad, if_pos hdanger]
    cases s.ctl.actuatorActive <;> exact (Nat.zero_add _).symm
  · rw [e, if_neg hbad, if_neg hdanger]
    cases s.ctl.actuatorActive <;> rfl

/-- A run over one more sample, in ACTIVE with AUTO_TX = 0: its cycle completes with the result of the tables. -/
theorem cycleRun_cons {s : State} (v : Word) (l : List Word) (hclear : s.fault.code = .none) (hloop : s.ctl.loop = .active)
    (hauto : s.ctrl.getLsbD 2 = false) :
    (cycleRun (v :: l) s).2 =
      (if (cycleResult .on (s.setCtlValue v)).intent.getLsbD Intent.toggle.bit then 1 else 0) +
        (cycleRun l (cycleResult .on (s.setCtlValue v))).2 := by
  rw [cycleRun, exec_ctlCycle_of_no_toggle (s.setCtlValue v) .on hclear hloop (autoToggle_eq_false _ (.inl hauto))]

end ControllerRuns

/-- Settles O36: the reset state is legal, the access keeps the controller legal, and the end of a clock leaves it. -/
theorem stepKeepsControlLegal : Obligations.StepKeepsControlLegal := by
  unfold Obligations.StepKeepsControlLegal
  intro s t hs hstep
  rcases step_cases s hstep with ⟨_, rfl⟩ | ⟨_, u, hu, rfl⟩
  · exact ⟨fun _ => rfl, nofun⟩
  · obtain ⟨_, _, _, _, hctl, _⟩ :=
      endClock_kept (u.setReadData (readDatum s.nextInput.access s)) Config.tickDiv s.nextInput.rxIn
    exact controlLegal_of_ctl_eq (s := u) hctl (accessStage_keeps_controlLegal hs hu)

/-- Settles O59, by induction on the samples: a completed cycle ON stays in ACTIVE with the same threshold and CTRL. -/
theorem toggleCountOfARun : Obligations.ToggleCountOfARun := by
  unfold Obligations.ToggleCountOfARun
  intro l
  induction l with
  | nil => exact fun _ _ _ _ => rfl
  | cons v l ih =>
    intro s hclear hloop hauto
    rw [cycleRun_cons v l hclear hloop hauto, ih (Safety.cycleResult .on (s.setCtlValue v)) hclear hloop hauto]
    exact (badEdges_cons .on (s.setCtlValue v) (l.map BitVec.toInt)).symm

/-- Settles O60: the exit keeps `prev_mode` ON, so CTL_MODE ON is no transition, and the next cycle is in OUTER. -/
theorem reentryNeedsOff : Obligations.ReentryNeedsOff := by
  unfold Obligations.ReentryNeedsOff
  intro s m hs hclear hloop hauto
  have hexit := exec_ctlCycle_of_no_toggle s .notOn hclear hloop (autoToggle_eq_false s (.inl hauto))
  have hmode : (Safety.cycleResult .notOn s).ctl.prevMode = .on := hs.active_loop_on hloop
  have hpoll := exec_ctlMode_of_outer (Safety.cycleResult .notOn s) .on hclear rfl
  rw [modePoll_on, if_pos hmode] at hpoll
  exact ⟨_, _, hexit, rfl, hmode, hpoll, rfl, rfl, exec_ctlCycle_of_refused _ m hclear (cycleRefusal_of_outer _ rfl)⟩

end Sys2Proof.Machine

/-! ### The map of the register space: what a read gives, which writes are refused and which are stored -/

namespace Sys2Proof.Machine

section RegisterSpace

variable (s : State)

/-- Every register's offset is a multiple of 4 below 0x64 (10_state.md R26). -/
theorem offset_aligned (r : RegName) : r.offset.toNat % 4 = 0 ∧ r.offset.toNat < 0x64 := by
  cases r <;> decide

/-- The registers lie one word after another from offset 0 (10_state.md R26). -/
theorem allRegs_offset (k : Fin allRegs.length) : allRegs[k].offset.toNat = 4 * k := by
  revert k
  decide

/-- The map has no gap: every multiple of 4 below 0x64 is a register's offset (10_state.md R26). -/
theorem exists_offset_eq {off : Offset} (halign : off.toNat % 4 = 0) (hlt : off.toNat < 0x64) :
    ∃ r : RegName, r.offset = off := by
  have hk : off.toNat / 4 < allRegs.length := by
    rw [show allRegs.length = 25 from rfl]
    omega
  refine ⟨allRegs[off.toNat / 4], BitVec.eq_of_toNat_eq ?_⟩
  calc allRegs[off.toNat / 4].offset.toNat = 4 * (off.toNat / 4) := allRegs_offset ⟨_, hk⟩
    _ = off.toNat := by omega

/-- No register is found at a misaligned or unmapped offset (20_memory.md R72, R73). -/
theorem regAt_eq_none {off : Offset} (h : off.toNat % 4 ≠ 0 ∨ 0x64 ≤ off.toNat) : regAt off = none := by
  refine Option.eq_none_iff_forall_ne_some.2 fun r hr => ?_
  obtain rfl := offset_of_regAt hr
  obtain ⟨halign, hlt⟩ := offset_aligned r
  omega

/-- A read of a register gives its word and leaves the state (44_system.md R242). -/
theorem busRead_offset (r : RegName) : s.busRead r.offset = (s, s.readReg r) := by
  simp [State.busRead, regAt_offset]

/-- A read of a misaligned or unmapped offset gives 0 and records BUS_ERROR (44_system.md R242). -/
theorem busRead_of_regAt_none {off : Offset} (h : regAt off = none) :
    s.busRead off = (s.raise .busError 0 (readAddr off), 0) := by
  simp [State.busRead, h]

/-- A register narrower than a word reads as its field, zero-extended. -/
theorem toNat_busRead_of_setWidth (r : RegName) {n : Nat} {x : BitVec n} (hn : n ≤ 32)
    (h : s.readReg r = x.setWidth 32) : (s.busRead r.offset).2.toNat = x.toNat := by
  rw [busRead_offset, h]
  exact BitVec.toNat_setWidth_of_le hn

/-- The width of FAULT as the sum of its fields' widths, the form in which the bits of a concatenation are looked up. -/
theorem faultWord_getLsbD (i : Nat) :
    s.faultWord.getLsbD i = BitVec.getLsbD (w := 23 + 1 + 4 + 4) s.faultWord i := rfl

/-- The fields of FAULT: CODE in bits 3:0, OVERFLOW in bit 8, 0 in the others (10_state.md R32). -/
theorem faultWord_fields :
    s.faultWord.extractLsb' 0 4 = s.fault.code.toBits ∧ s.faultWord.extractLsb' 4 4 = 0 ∧
    s.faultWord.getLsbD 8 = s.fault.overflow ∧ s.faultWord.extractLsb' 9 23 = 0 := by
  have hoverflow : s.faultWord.getLsbD 8 = s.fault.overflow := by
    rw [faultWord_getLsbD, State.faultWord]
    simp only [BitVec.getLsbD_append]
    simp
  refine ⟨?_, ?_, hoverflow, ?_⟩
  all_goals
    refine BitVec.eq_of_getLsbD_eq fun i hi => ?_
    rw [BitVec.getLsbD_extractLsb', faultWord_getLsbD, State.faultWord]
    simp only [BitVec.getLsbD_append]
    interval_cases i <;> simp

/-- A write to a misaligned or unmapped offset records BUS_ERROR (44_system.md R243). -/
theorem busWrite_of_regAt_none {off : Offset} (v : Word) (h : regAt off = none) :
    busWrite off v s = .next (s.writeError off v) := by
  simp [busWrite, h]

/-- A write to a read-only register records BUS_ERROR (44_system.md R243). -/
theorem writeReg_of_ro {r : RegName} (v : Word) (h : r.access = .ro) :
    writeReg r v s = .next (s.writeError r.offset v) := by
  cases r with
  | ctrl | cmd | profCode | profProto | profPulse | profBits | profRepeat | ctlValue | ctlThresh => cases h
  | _ => rfl

/-- The offsets of the read-only registers (10_state.md R26). -/
theorem offsets_of_ro : (allRegs.filter fun r => r.access = .ro).map RegName.offset =
    [0x00, 0x08, 0x10, 0x14, 0x18, 0x1C, 0x34, 0x38, 0x3C, 0x40, 0x44, 0x48, 0x54, 0x58, 0x5C, 0x60] := by
  decide

/-- A field write within its range is stored (10_state.md R37 to R40). -/
theorem writeField_of_legal (r : RegName) {hi : Nat} {v : Word} (store : State → State) (h1 : 1 ≤ v.toNat)
    (hhi : v.toNat ≤ hi) : s.writeField r hi v store = store s :=
  ((writeField_cases s r hi v store).resolve_left fun ⟨hout, _⟩ => by omega).2

/-- A field write out of its range records FIELD_RANGE and stores nothing (10_state.md R37 to R40). -/
theorem writeField_of_illegal (r : RegName) {hi : Nat} {v : Word} (store : State → State)
    (h : ¬ (1 ≤ v.toNat ∧ v.toNat ≤ hi)) : s.writeField r hi v store = s.raise .fieldRange v (writeAddr r.offset) :=
  ((writeField_cases s r hi v store).resolve_right fun ⟨hin, _⟩ => h hin).2

end RegisterSpace

/-- Settles O23: a register's read gives its word, and the offsets that are no register's are the misaligned and unmapped ones. -/
theorem readsOfTheRegisterSpace : Obligations.ReadsOfTheRegisterSpace := by
  unfold Obligations.ReadsOfTheRegisterSpace
  intro s
  have hread : ∀ r : RegName, (s.busRead r.offset).2 = s.readReg r := fun r => congrArg Prod.snd (busRead_offset s r)
  have hfault : (s.busRead 0x10).2 = s.faultWord := hread .fault
  obtain ⟨hcode, hlow, hoverflow, hhigh⟩ := faultWord_fields s
  rw [hfault, hcode]
  refine ⟨fun off => ⟨fun h => busRead_of_regAt_none s (regAt_eq_none h), fun r h => h ▸ busRead_offset s r, exists_offset_eq⟩,
    hread .id, hread .ctrl, busRead_offset s .cmd, ⟨?_, hlow, hoverflow, hhigh⟩,
    hread .faultInfo, hread .faultAddr, hread .timer, hread .profCode,
    toNat_busRead_of_setWidth s .profProto (by decide) rfl,
    toNat_busRead_of_setWidth s .profPulse (by decide) rfl,
    toNat_busRead_of_setWidth s .profBits (by decide) rfl,
    toNat_busRead_of_setWidth s .profRepeat (by decide) rfl,
    toNat_busRead_of_setWidth s .profValid (by decide) rfl, hread .rxCode,
    toNat_busRead_of_setWidth s .rxProto (by decide) rfl,
    toNat_busRead_of_setWidth s .rxPulse (by decide) rfl,
    toNat_busRead_of_setWidth s .rxBits (by decide) rfl, hread .rxTs, hread .ctlValue, hread .ctlThresh, ?_,
    toNat_busRead_of_setWidth s .intent (by decide) rfl, hread .ctlSeq,
    toNat_busRead_of_setWidth s .txFrames (by decide) rfl⟩
  · cases s.fault.code <;> rfl
  · refine (hread .ctlPrevThresh).trans ?_
    unfold State.readReg
    cases s.ctl.prevThresh <;> rfl

/-- Settles O25: either no register is found at the offset, or the register found is read-only. -/
theorem refusedWrites : Obligations.RefusedWrites := by
  unfold Obligations.RefusedWrites
  intro s off v h
  rw [← offsets_of_ro] at h
  rcases h with hmisaligned | hunmapped | hro
  · exact busWrite_of_regAt_none s v (regAt_eq_none (.inl hmisaligned))
  · exact busWrite_of_regAt_none s v (regAt_eq_none (.inr hunmapped))
  · obtain ⟨r, hr, rfl⟩ := List.mem_map.1 hro
    have haccess : r.access = .ro := by simpa using (List.mem_filter.1 hr).2
    exact (busWrite_offset s r v).trans (writeReg_of_ro s v haccess)

/-- Settles O27: a field write is stored within its range and faults outside it, and the other writes are always stored. -/
theorem registerWrites : Obligations.RegisterWrites := by
  unfold Obligations.RegisterWrites
  intro s v
  have hwrite : ∀ (r : RegName) {t u : State}, writeReg r v s = .next t → t = u → busWrite r.offset v s = .next u :=
    fun r _ _ ht htu => (busWrite_offset s r v).trans (ht.trans (congrArg _ htu))
  exact ⟨hwrite .profCode rfl rfl,
    fun h1 hhi => hwrite .profProto rfl (writeField_of_legal s _ _ h1 hhi),
    fun h => hwrite .profProto rfl (writeField_of_illegal s _ _ h),
    fun h1 hhi => hwrite .profPulse rfl (writeField_of_legal s _ _ h1 hhi),
    fun h => hwrite .profPulse rfl (writeField_of_illegal s _ _ h),
    fun h1 hhi => hwrite .profBits rfl (writeField_of_legal s _ _ h1 hhi),
    fun h => hwrite .profBits rfl (writeField_of_illegal s _ _ h),
    fun h1 hhi => hwrite .profRepeat rfl (writeField_of_legal s _ _ h1 hhi),
    fun h => hwrite .profRepeat rfl (writeField_of_illegal s _ _ h),
    hwrite .ctlValue rfl rfl, hwrite .ctlThresh rfl rfl⟩

end Sys2Proof.Machine

/-! ### The system commands, and the completion of every clock -/

namespace Sys2Proof.Machine

section Completion

variable (s : State)

/-- Every command completes (30_encoding.md R98). -/
theorem exec_completes (i : Instr) : ∃ t, exec i s = .next t := by
  cases i <;> exact ⟨_, rfl⟩

/-- The issue of every word completes, legal or not (30_encoding.md R98). -/
theorem issue_completes (w : Word) : ∃ t, issue w s = .next t := by
  cases hdecode : decode w with
  | none => exact ⟨_, issue_of_decode_none s hdecode⟩
  | some i =>
    rw [issue_of_decode_some s hdecode]
    exact exec_completes s i

/-- A write to every register completes, refused or not (44_system.md R243). -/
theorem writeReg_completes (r : RegName) (v : Word) : ∃ t, writeReg r v s = .next t := by
  cases r with
  | cmd => exact issue_completes s v
  | _ => exact ⟨_, rfl⟩

/-- Every access completes in its clock (44_system.md R244). -/
theorem accessStage_completes (a : Access) : ∃ t, accessStage a s = .next t := by
  cases a with
  | idle => exact ⟨_, rfl⟩
  | read off => exact ⟨_, rfl⟩
  | write off v =>
    cases hreg : regAt off with
    | none => exact ⟨_, busWrite_of_regAt_none s v hreg⟩
    | some r =>
      obtain rfl := offset_of_regAt hreg
      rw [accessStage, busWrite_offset]
      exact writeReg_completes s r v

/-- A write of NOP's word to CMD leaves the state (44_system.md R240). -/
theorem accessStage_write_nop : accessStage (.write 0x0C (encode .nop)) s = .next s :=
  (busWrite_cmd s _).trans ((issue_of_decode_some s (decode_encode .nop)).trans (exec_nop s))

end Completion

/-- Settles O6: a reset clock completes, and any other one completes because its access does. -/
theorem everyClockCompletes : Obligations.EveryClockCompletes := by
  unfold Obligations.EveryClockCompletes
  intro s
  cases hrst : s.nextInput.rstN with
  | false => exact ⟨s.resetClock s.nextInput.access, by simp [step, clockStep, hrst]⟩
  | true =>
    obtain ⟨u, hu⟩ := accessStage_completes s s.nextInput.access
    exact ⟨_, step_of_accessStage s hrst rfl hu rfl⟩

/-- Settles O7: an idle bus and a write of NOP's word both leave the state and give no datum. -/
theorem nopChangesNothing : Obligations.NopChangesNothing := by
  unfold Obligations.NopChangesNothing
  intro s
  have hnop := step_withAccess_unchanged s (accessStage_write_nop (s.withAccess (.write 0x0C (encode .nop))))
  have hidle := step_withAccess_unchanged s (a := .idle) rfl
  exact ⟨exec_nop s, hnop.trans hidle.symm⟩

/-- Settles O8: the cleared fault record has the code 0, so no fault is pending. -/
theorem faultClearResult : Obligations.FaultClearResult := by
  unfold Obligations.FaultClearResult
  exact fun s => ⟨_, exec_faultClear s, rfl, rfl⟩

end Sys2Proof.Machine

/-! ### The fault record, its precision, and the interrupt -/

namespace Sys2Proof.Machine

section FaultRules

open Sys2Proof.Safety

variable (s : State)

/-- A command leaves the fault record, or it writes nothing else and leaves it cleared or with a fault in it (60_exceptions.md
R265, R268). -/
theorem exec_fault_cases {i : Instr} {t : State} (h : exec i s = .next t) :
    t.fault = s.fault ∨ (t = s.setFault t.fault ∧ (t.fault = FaultRec.clear ∨ t.fault.code ≠ .none)) := by
  rcases exec_cases s h with rfl | ⟨-, rfl⟩ | ⟨hsame, hcode⟩ | ⟨-, hcmd⟩
  · exact .inl rfl
  · exact .inr ⟨rfl, .inl rfl⟩
  · exact .inr ⟨hsame, .inr hcode⟩
  · rcases hcmd with ⟨-, -, rfl⟩ | ⟨-, rfl⟩ | ⟨-, rfl⟩ | ⟨-, rfl⟩ | ⟨-, -, rfl⟩ | ⟨m, -, -, rfl⟩ | ⟨m, -, -, rfl⟩
    · exact .inl rfl
    · exact .inl rfl
    · exact .inl rfl
    · exact .inl rfl
    · exact .inl rfl
    · obtain ⟨_, hfault, _⟩ := modePoll_kept s m
      exact .inl hfault
    · obtain ⟨_, hfault, _⟩ := cycle_kept s m
      exact .inl hfault

/-- An access leaves the fault record, or it writes nothing else and leaves it cleared or with a fault in it. -/
theorem accessStage_fault_cases {a : Access} {u : State} (h : accessStage a s = .next u) :
    u.fault = s.fault ∨ (u = s.setFault u.fault ∧ (u.fault = FaultRec.clear ∨ u.fault.code ≠ .none)) := by
  rcases accessStage_cases s h with rfl | ⟨hsame, hcode⟩ | ⟨_, _, _, _, rfl⟩ | ⟨_, _, _, _, hexec⟩ | ⟨_, _, rfl⟩ |
    ⟨_, _, _, rfl⟩ | ⟨_, _, _, rfl⟩ | ⟨_, _, _, rfl⟩ | ⟨_, _, _, rfl⟩ | ⟨_, _, rfl⟩ | ⟨_, _, rfl⟩
  case inr.inl => exact .inr ⟨hsame, .inr hcode⟩
  case inr.inr.inr.inl => exact exec_fault_cases s hexec
  all_goals exact .inl rfl

/-- An access keeps the fault record legal: what it writes there is the cleared record or one with a fault. -/
theorem accessStage_keeps_faultLegal {s u : State} {a : Access} (hs : FaultLegal s) (h : accessStage a s = .next u) :
    FaultLegal u := by
  intro hnone
  rcases accessStage_fault_cases s h with hkept | ⟨-, hclear | hcode⟩
  · rw [hkept] at hnone ⊢
    exact hs hnone
  · exact hclear
  · exact absurd hnone hcode

/-- The level `irq` takes is the OR of the enabled pending bits (60_exceptions.md R270). -/
theorem irqLevel_iff : s.irqLevel = true ↔
    (s.ctrl.getLsbD 8 = true ∧ s.txDone = true) ∨ (s.ctrl.getLsbD 9 = true ∧ s.rx.valid = true) ∨
      (s.ctrl.getLsbD 10 = true ∧ s.fault.code ≠ .none) := by
  simp [State.irqLevel, State.ieTxDone, State.ieRxValid, State.ieFault, faultPending_iff, or_assoc]

/-- The end of a clock sets `irq` from the flags it leaves: no stage after that of `irq` writes one of them. -/
theorem endClock_irq (div : Nat) (rxIn : Bool) : (s.endClock div rxIn).irq = (s.endClock div rxIn).irqLevel := rfl

end FaultRules

/-- Settles O22: recording a fault looks at FAULT.CODE alone. -/
theorem firstFaultKept : Obligations.FirstFaultKept := by
  unfold Obligations.FirstFaultKept
  intro s code info addr
  refine ⟨raise_eq_faulted s, fun hfault => ?_⟩
  rcases raise_cases s code info addr with ⟨hclear, _⟩ | ⟨_, e⟩
  · exact absurd hclear hfault
  · exact e

/-- Settles O20: the meaning of every other command begins with the block test. -/
theorem commandsBlockedByFault : Obligations.CommandsBlockedByFault := by
  unfold Obligations.CommandsBlockedByFault
  intro i s hfault hnop hclear
  cases i with
  | nop => exact absurd rfl hnop
  | faultClear => exact absurd rfl hclear
  | _ => exact congrArg Host.Outcome.next (unlessBlocked_blocked s _ hfault)

/-- Settles O21: a command that writes the fault record writes nothing else. -/
theorem faultsArePrecise : Obligations.FaultsArePrecise := by
  unfold Obligations.FaultsArePrecise
  intro i s t hexec hchanged
  rcases exec_fault_cases s hexec with hkept | ⟨hsame, -⟩
  · exact absurd hkept hchanged
  · exact hsame

/-- Settles O38: a reset clock clears the fault record, the access keeps it legal, and the end of the clock leaves it. -/
theorem stepKeepsFaultLegal : Obligations.StepKeepsFaultLegal := by
  unfold Obligations.StepKeepsFaultLegal
  intro s t hs hstep
  rcases step_cases s hstep with ⟨_, rfl⟩ | ⟨_, u, hu, rfl⟩
  · exact fun _ => rfl
  · obtain ⟨_, hfault, _⟩ :=
      endClock_kept (u.setReadData (readDatum s.nextInput.access s)) Config.tickDiv s.nextInput.rxIn
    have hlegal : Safety.FaultLegal u := accessStage_keeps_faultLegal hs hu
    rwa [Safety.FaultLegal, hfault]

/-- Settles O31: out of reset the end of the clock sets `irq` from the flags, a reset clock clears it, and STATUS shows the register. -/
theorem irqFollowsFlags : Obligations.IrqFollowsFlags := by
  unfold Obligations.IrqFollowsFlags
  refine ⟨fun s t hstep => ?_, rfl, fun s => ?_⟩
  · rcases step_cases s hstep with ⟨hreset, rfl⟩ | ⟨hrun, u, _, rfl⟩
    · exact ⟨fun hrst => absurd (hreset.symm.trans hrst) nofun, fun _ => rfl⟩
    · refine ⟨fun _ => ?_, fun hreset => absurd (hrun.symm.trans hreset) nofun⟩
      rw [endClock_irq]
      exact irqLevel_iff _
  · obtain ⟨_, _, _, _, _, _, _, _, _, _, _, _, hirq⟩ := statusWord_flags s
    rw [busRead_status, hirq]

end Sys2Proof.Machine

/-! ### Reset: the values it gives, the clock that gives them, and the invariants they meet -/

namespace Sys2Proof.Machine

section ResetRules

/-- After reset STATUS reads 0: every flag and every field of it is encoded as 0 (70_reset_and_hazards.md R291). -/
theorem statusWord_reset : State.reset.statusWord = 0 := by decide

/-- After reset FAULT reads 0: no fault is encoded as code 0 (70_reset_and_hazards.md R291). -/
theorem faultWord_reset : State.reset.faultWord = 0 := by decide

/-- After reset every register but ID reads 0; STATUS and FAULT are put together from flags, the others hold or show a 0
(70_reset_and_hazards.md R291). -/
theorem readReg_reset_of_ne_id {r : RegName} (h : r ≠ .id) : State.reset.readReg r = 0 := by
  cases r with
  | id => exact absurd rfl h
  | status => exact statusWord_reset
  | fault => exact faultWord_reset
  | _ => rfl

variable (s : State)

/-- A clock with `rst_n` = 0 is a reset clock, whatever it carries (70_reset_and_hazards.md R290). -/
theorem step_of_reset (hrst : s.nextInput.rstN = false) : step s = .next (s.resetClock s.nextInput.access) := by
  simp [step, clockStep, hrst]

/-- Of the state before it a reset clock keeps only the model's own schedule and counter, each moved on by one clock; of the access
only a read's datum is left (70_reset_and_hazards.md R290; log 2, log 3). -/
theorem resetClock_eq (a : Access) : s.resetClock a =
    { State.reset with inputs := s.inputs.tail, clock := s.clock + 1, readData := resetReadData a } := rfl

end ResetRules

/-- Settles O32: ID is the one register that does not read 0. -/
theorem resetValues : Obligations.ResetValues := by
  unfold Obligations.ResetValues
  refine ⟨fun r => ?_, rfl, rfl, rfl, rfl, rfl, rfl, rfl, rfl⟩
  split
  case isTrue hid => rw [hid]; rfl
  case isFalse hid => exact readReg_reset_of_ne_id hid

/-- Settles O33: what the spec leaves unspecified has the model's own reset values (log 5, log 6), and the datum goes by the kind of
the access. -/
theorem resetClockResets : Obligations.ResetClockResets := by
  unfold Obligations.ResetClockResets
  intro s hrst
  refine ⟨State.reset.tx.snap, State.reset.tx.seq, State.reset.sync, ?_⟩
  rw [step_of_reset s hrst, resetClock_eq]
  cases s.nextInput.access <;> rfl

/-- Settles O35: after reset the engine is idle on a low line, the latch, the profile and the fault record are empty, both channels
are off, the controller is in OUTER, and the decoder is held. -/
theorem resetIsLegal : Obligations.ResetIsLegal := by
  unfold Obligations.ResetIsLegal
  have hcontrol : Safety.ControlLegal State.reset := ⟨fun _ => rfl, nofun⟩
  have hchannels : Safety.ChannelsLegal State.reset := channelsLegal_of_off rfl rfl
  have hfault : Safety.FaultLegal State.reset := fun _ => rfl
  have htimebase : Safety.TimebaseLegal State.reset := tickDiv_pos
  have hlatch : Safety.LatchLegal State.reset := latchLegal_of_not_valid rfl
  have hprofile : Safety.ProfileLegal State.reset := profileLegal_of_cleared rfl rfl
  have htransmit : Safety.TransmitLegal State.reset := transmitLegal_of_idle rfl rfl
  have hdecoder : Safety.DecoderLegal State.reset := decoderLegal_of_legal (fun _ => rfl) initial_legal
  exact ⟨hcontrol, hchannels, hfault, htimebase, hlatch, hprofile, htransmit, hdecoder⟩

end Sys2Proof.Machine
